-- ==== Sys2Proof/Word.lean ====
section
/-! DEFINITION. The word types of the block, one per width that 10_state.md and 30_encoding.md name. -/

namespace Sys2Proof

/-- An operand byte of an operation word (30_encoding.md R60), and a byte of a host packet (R64). -/
abbrev Byte := BitVec 8

/-- An operation word `w[23:0]` (30_encoding.md R60). -/
abbrev OpWord := BitVec 24

/-- A value of the timer counter or of a compare register (10_state.md R21 to R23). -/
abbrev TimerWord := BitVec 16

/-- A value of the millisecond counter (10_state.md R29, R16). -/
abbrev MsWord := BitVec 32

/-- An index into the shared sample array (10_state.md R18, R19; 20_memory.md R41). -/
abbrev SampleIndex := BitVec 8

/-- A stored sample, in microseconds (30_encoding.md R58, R59). -/
abbrev Sample := BitVec 16

/-- A token index, bit 0 the slot parity and bit 1 the eye (30_encoding.md R56). -/
abbrev TokenIndex := BitVec 2

end Sys2Proof
end

