-- ==== Sys2Proof/Config.lean ====
section
/-! DEFINITION. What an implementation fixes: the value codes' types, the Protocol Table and Library, and every parameter of
00_scope.md R5, as ONE structure of plain data (92_eei_decisions.md, "Open parameters, in one place"). -/

namespace Sys2Proof

/-- The eye code's two values (30_encoding.md R55: `RIGHT = 0`, `LEFT = 1`). -/
inductive Eye where
  | right
  | left
deriving DecidableEq, Repr

/-- The five sync modes (10_state.md R20). Codes 5, 6 and 7 never occur in the state, so they are not representable here. -/
inductive Mode where
  | none
  | driver
  | external
  | combined
  | freerun
deriving DecidableEq, Repr

/-- A Protocol Table (20_memory.md R41, 30_encoding.md R58): a record of numbers without byte image (R44). -/
structure Table where
  start : Vector SampleIndex 4
  count : Vector SampleIndex 4
  samples : List Sample
deriving DecidableEq, Repr

/-- The table that holds nothing: four absent slots and no samples (95_test_vectors.md VM6: well-formed). -/
def Table.empty : Table :=
  { start := #v[0, 0, 0, 0], count := #v[0, 0, 0, 0], samples := [] }

/-- The parameters of 00_scope.md R5. `HOST_SEL_EYE` and `EXT_LEVEL_EYE` are functions there; here each is the table of its
values, one bit per argument (1 = left), so that a configuration is plain data. -/
structure Params where
  /-- `LIB` (20_memory.md R52). -/
  library : List Table
  /-- `PROTO_SEL`, fixed before reset (R52). -/
  protoSel : Nat
  /-- `PAN_TICKS`. -/
  panTicks : Nat
  /-- `GAP_TICKS`. -/
  gapTicks : Nat
  /-- `FREERUN_PERIOD_MS`. -/
  freerunPeriodMs : Nat
  /-- `TIMEOUT_MS`. -/
  timeoutMs : Nat
  /-- `HOST_MARKER`. -/
  hostMarker : Byte
  /-- `HOST_SEL_EYE`: bit `s` is the eye of the selector byte `s`. -/
  hostSelEye : BitVec 256
  /-- `EXT_LEVEL_EYE`: bit `l` is the eye of the line level `l`. -/
  extLevelEye : BitVec 2
  /-- `COMBINED_EDGE_STARTS_UNSTAGED`. -/
  combinedEdgeStartsUnstaged : Bool
  /-- `RESET_MODE`. -/
  resetMode : Mode
  /-- `RESET_EYE`. -/
  resetEye : Eye
deriving DecidableEq, Repr

/-- DESIGN CHOICE (safe, log entry 3): the marker byte of an implementation. The spec leaves `HOST_MARKER` OPEN with no
default, so it is a constant without a body: no proof can see its value. -/
opaque Config.hostMarker : Byte

/-- The parameters' values in the column "Spec" of 00_scope.md R5.
DESIGN CHOICE (unsafe, log entry 2): the Protocol Library, which the spec leaves OPEN, holds the one empty table. -/
def Params.default : Params :=
  { library := [Table.empty]
    protoSel := 0
    panTicks := 6000
    gapTicks := 2000
    freerunPeriodMs := 9
    timeoutMs := 200
    hostMarker := Config.hostMarker
    hostSelEye := 0xAAAAAAAAAAAAAAAAAAAAAAAAAAAAAAAAAAAAAAAAAAAAAAAAAAAAAAAAAAAAAAAA#256
    extLevelEye := 2#2
    combinedEdgeStartsUnstaged := false
    resetMode := .none
    resetEye := .right }

end Sys2Proof
end

