-- ==== Sys2Proof/Machine/Operands.lean ====
section
/-! DEFINITION. The operand forms and value codes: eyes, modes, token indices, the host packet's bytes and the sync line's level
(30_encoding.md R55 to R64), and the readers of a Protocol Table (20_memory.md R43). -/

namespace Sys2Proof

/-- The eye code (30_encoding.md R55). -/
def Eye.code : Eye → BitVec 1
  | .right => 0#1
  | .left => 1#1

/-- The eye of a code bit (R55): 1 is left. -/
def Eye.ofBit (b : Bool) : Eye := if b then .left else .right

/-- `NOT e` (00_scope.md R9). -/
def Eye.other : Eye → Eye
  | .right => .left
  | .left => .right

/-- `e XOR swap_eyes` (00_scope.md R9, 43_sync_arbitrator.md R100). -/
def Eye.xorSwap (e : Eye) (swap : Bool) : Eye := if swap then e.other else e

/-- The slot that starts a frame for an eye: `2 * current_eye`, that is the eye's code above the parity bit 0
(30_encoding.md R56). -/
def Eye.openingSlot : Eye → TokenIndex
  | .right => 0#2
  | .left => 2#2

/-- The mode code (30_encoding.md R57). -/
def Mode.code : Mode → Byte
  | .none => 0#8
  | .driver => 1#8
  | .external => 2#8
  | .combined => 3#8
  | .freerun => 4#8

/-- The mode of a code byte; codes 5 to 255 are not modes (30_encoding.md R57, 43_sync_arbitrator.md R107). -/
def Mode.ofCode (m : Byte) : Option Mode :=
  if m = 0#8 then some .none
  else if m = 1#8 then some .driver
  else if m = 2#8 then some .external
  else if m = 3#8 then some .combined
  else if m = 4#8 then some .freerun
  else Option.none

/-- `requires_driver(mode)` (10_state.md R20): the `DRIVER` flag, bit 0 of the code, outside `FREERUN`. -/
def Mode.requiresDriver : Mode → Bool
  | .driver => true
  | .combined => true
  | .none => false
  | .external => false
  | .freerun => false

/-- `requires_external(mode)` (10_state.md R20): the `EXTERNAL` flag, bit 1 of the code. -/
def Mode.requiresExternal : Mode → Bool
  | .external => true
  | .combined => true
  | .none => false
  | .driver => false
  | .freerun => false

/-- `HOST_SEL_EYE(s)` (00_scope.md R5, 30_encoding.md R61). -/
def Params.selectorEye (p : Params) (s : Byte) : Eye := Eye.ofBit (p.hostSelEye.getLsbD s.toNat)

/-- `EXT_LEVEL_EYE(l)` (00_scope.md R5, 43_sync_arbitrator.md R103). -/
def Params.levelEye (p : Params) (level : Bool) : Eye := Eye.ofBit (p.extLevelEye.getLsbD level.toNat)

/-- `Start(t)` (20_memory.md R43). -/
def Table.startOf (T : Table) (t : TokenIndex) : SampleIndex := T.start[t.toNat]'t.isLt

/-- `Count(t)` (20_memory.md R43); 0 means that the slot is absent (R41). -/
def Table.countOf (T : Table) (t : TokenIndex) : SampleIndex := T.count[t.toNat]'t.isLt

/-- `Sample(i)`, which has no value from `N_SAMPLES` up (20_memory.md R43, R47). -/
def Table.sampleAt (T : Table) (i : SampleIndex) : Option Sample := T.samples[i.toNat]?

/-- A slot whose index is even is an opening slot: bit 0 is the slot parity (30_encoding.md R56). -/
def isOpeningSlot (t : TokenIndex) : Bool := !t.getLsbD 0

/-- The protocol mux: `TABLE = LIB[PROTO_SEL]` (20_memory.md R52). Parameters whose selection lies outside the library fail their
registration, and no State holds them. -/
def Params.table (p : Params) : Table := p.library.getD p.protoSel Table.empty

end Sys2Proof
end

