-- ==== Sys2Proof/Machine/Registration.lean ====
section
/-! DEFINITION. Registration of a configuration (20_memory.md R42, R53; 70_reset_and_hazards.md R147): which Protocol Tables and
which choices of the parameters are well-formed. A configuration that fails never enters a State (Machine/State.lean). -/

namespace Sys2Proof

/-- The four token slots (20_memory.md R40). -/
def tokenIndices : List TokenIndex := [0#2, 1#2, 2#2, 3#2]

/-- WF1: the samples of a present slot lie within the shared array. -/
def Table.wf1 (T : Table) (t : TokenIndex) : Bool :=
  T.countOf t == 0#8 || decide ((T.startOf t).toNat + (T.countOf t).toNat ≤ T.samples.length)

/-- WF2: a nonzero count is odd. -/
def Table.wf2 (T : Table) (t : TokenIndex) : Bool :=
  T.countOf t == 0#8 || (T.countOf t).toNat % 2 == 1

/-- WF3: at most 255 samples. -/
def Table.wf3 (T : Table) : Bool := decide (T.samples.length ≤ 255)

/-- WF4: every sample that belongs to a present slot is in 1..32767 (`drop` and `take` give none for an absent slot). -/
def Table.wf4 (T : Table) (t : TokenIndex) : Bool :=
  ((T.samples.drop (T.startOf t).toNat).take (T.countOf t).toNat).all
    fun v => decide (1 ≤ v.toNat ∧ v.toNat ≤ 32767)

/-- A well-formed Protocol Table (20_memory.md R42). -/
def Table.wf (T : Table) : Bool :=
  T.wf3 && tokenIndices.all fun t => T.wf1 t && T.wf2 t && T.wf4 t

/-- The constraints among the parameters that every rule assumes (00_scope.md R6), the selection inside the library, and
every table of the library well-formed (20_memory.md R52, R53). -/
def Params.wf (p : Params) : Bool :=
  decide (1 ≤ p.panTicks ∧ p.panTicks ≤ 65535) &&
  decide (1 ≤ p.gapTicks ∧ p.gapTicks ≤ 65535) &&
  decide (p.freerunPeriodMs < 2 ^ 31 ∧ p.timeoutMs < 2 ^ 31) &&
  decide (p.protoSel < p.library.length) &&
  p.library.all Table.wf

/-- The column "Spec" of 00_scope.md R5 passes its registration, whatever the marker byte is. -/
theorem Params.default_wf : Params.default.wf = true := by decide

end Sys2Proof
end

