-- ==== Sys2Proof/Machine/State.lean ====
section
/-! DEFINITION. The state of the block (10_state.md R10, every element of its table), the model's own fields beside it, the
reasons a step can stop, and the state after reset (70_reset_and_hazards.md R145). -/

namespace Sys2Proof.Machine

/-- The model-level faults (60_exceptions.md R126). They are not hardware (R125). -/
inductive Fault where
  /-- F1, raised by `start_frame` with `run = 1`, reached from `SYNCIN`, `PKT` and `POLLF`. Safe: the run stops where the source
  gives no behaviour. -/
  | frameOverlap
  /-- F2, raised by `COMPA` and `COMPB` when `Sample(cursor)` is needed with `cursor >= N_SAMPLES`. Safe: the run stops where the
  source gives no behaviour. -/
  | tableBounds
deriving DecidableEq, Repr

/-- Why no meaning was performed. -/
inductive Refusal where
  /-- Raised by no arm of `exec`: every operation has its meaning. Safe. -/
  | notModelled (mnemonic : String)
  /-- Raised by `TICK` while a compare handler is due: it "cannot be performed" then (40_timers.md R70). `step` performs the due
  handler first and so never raises it. Safe. -/
  | tickNotEnabled
  /-- Raised by `COMPA` without `ifa = 1 and iea = 1`: the trace is rejected (30_encoding.md R63 (c)). Safe. -/
  | compaNotEnabled
  /-- Raised by `COMPB` without `ifb = 1 and ieb = 1`: the trace is rejected (R63 (c)). Safe. -/
  | compbNotEnabled
  /-- Raised by `powerUp` when the configuration fails its registration (20_memory.md R42, R53, R54; 00_scope.md R6); no State holds
  such a configuration, so no operation and no step raises it. Safe. -/
  | configurationNotWellFormed
deriving DecidableEq, Repr

/-- Which order of the enabled operations a run takes (00_scope.md R8, 60_exceptions.md R130). -/
inductive Schedule where
  /-- A due handler runs before the next stimulus (30_encoding.md R67). -/
  | eager
  /-- Handlers run where the list of words records them (R63 (c)); a due handler still runs before a `TICK` (40_timers.md R70)
  and when no word is left. -/
  | asWritten
deriving DecidableEq, Repr

/-- The state elements of 10_state.md R10, then the model's own three fields, the parameters with the proof that
they passed their registration. -/
structure State where
  /-- R11 -/
  currentEye : Eye
  /-- R12 -/
  nextEye : Eye
  /-- R13 -/
  swapEyes : Bool
  /-- R14 -/
  synced : Bool
  /-- R15 -/
  active : Bool
  /-- R16 -/
  lastFrameTime : MsWord
  /-- R17 -/
  currentToken : TokenIndex
  /-- R18 -/
  cursor : SampleIndex
  /-- R19 -/
  endIndex : SampleIndex
  /-- R20 -/
  mode : Mode
  /-- R21 -/
  cnt : TimerWord
  /-- R22 -/
  ocra : TimerWord
  /-- R23 -/
  ocrb : TimerWord
  /-- R24 -/
  run : Bool
  /-- R25 -/
  iea : Bool
  /-- R25 -/
  ieb : Bool
  /-- R26 -/
  ifa : Bool
  /-- R26 -/
  ifb : Bool
  /-- R27 -/
  extIe : Bool
  /-- R28 -/
  syncIn : Bool
  /-- R29 -/
  ms : MsWord
  /-- R30 -/
  irOut : Bool
  /-- R31 -/
  statusFrame : Bool
  /-- R33; `none` is no fault. -/
  fault : Option Fault
  /-- DESIGN CHOICE (safe, log entry 1): the parameters of 00_scope.md R5, no state of the block (R36), written by nothing. -/
  params : Params
  /-- The configuration passed its registration before reset (20_memory.md R42, R53; 70_reset_and_hazards.md R147 (2)), so that no
  operation has a table to run on to which R54 gives no meaning. DESIGN CHOICE (safe, log entry 10). -/
  registered : params.wf = true
  /-- DESIGN CHOICE (safe, log entry 4): the operation words still to be performed, the next one first. -/
  trace : List OpWord
  /-- DESIGN CHOICE (safe, log entry 5): which of the allowed orders this run takes. -/
  schedule : Schedule
deriving DecidableEq, Repr

/-- The outcome of an operation. -/
abbrev Result := Host.Outcome State Fault Refusal

/-- The state after reset under the registered parameters `p` (70_reset_and_hazards.md R145).
DESIGN CHOICE (unsafe, log entries 4 and 5): no word waits, and the schedule is the eager one. -/
def State.resetWith (p : Params) (registered : p.wf = true) : State :=
  { currentEye := p.resetEye
    nextEye := p.resetEye
    swapEyes := false
    synced := false
    active := false
    lastFrameTime := 0#32
    currentToken := 0#2
    cursor := 0#8
    endIndex := 0#8
    mode := p.resetMode
    cnt := 0#16
    ocra := 0#16
    ocrb := 0#16
    run := false
    iea := false
    ieb := false
    ifa := false
    ifb := false
    extIe := p.resetMode.requiresExternal
    syncIn := false
    ms := 0#32
    irOut := false
    statusFrame := false
    fault := none
    params := p
    registered := registered
    trace := []
    schedule := .eager }

/-- The machine right after reset, with the parameters' default values (00_scope.md R5; log entry 2). -/
def State.reset : State := State.resetWith Params.default Params.default_wf

end Sys2Proof.Machine
end

