-- ==== Sys2Proof/Syntax.lean ====
section
/-! DEFINITION. The operation set PSG-OPS 1: one constructor per row of spec/opcode_table.json (30_encoding.md R62). -/

namespace Sys2Proof

/-- An operation of kind (1) or (2) of 00_scope.md R7, with its operand bytes as they stand (30_encoding.md R61). -/
inductive Instr where
  /-- `TICK` (40_timers.md R70). -/
  | tick
  /-- `MSTICK` (R75). -/
  | mstick
  /-- `SYNCIN l` (43_sync_arbitrator.md R102): the new level of the line. -/
  | syncin (level : Bool)
  /-- `PKT m, s` (R104): the marker byte and the eye-selector byte. -/
  | pkt (marker selector : Byte)
  /-- `MODE m` (R107): the mode code, a whole byte; legal up to 4 (R61). -/
  | mode (code : Byte)
  /-- `SWAP` (R108). -/
  | swap
  /-- `POLLF` (R105). -/
  | pollf
  /-- `POLLL` (R106). -/
  | polll
  /-- `MEMRD a, b` (R109). -/
  | memrd (a b : Byte)
  /-- `MEMWR a, b` (R109). -/
  | memwr (a b : Byte)
  /-- `MEMCLR a, b` (R109). -/
  | memclr (a b : Byte)
  /-- `COMPA`, hardware event (41_pulse_cursor.md R81). -/
  | compa
  /-- `COMPB`, hardware event (R82). -/
  | compb
deriving DecidableEq, Repr

end Sys2Proof
end

