-- ==== Sys2Proof/Machine/Flags.lean ====
section
/-! DEFINITION. The flag computations: compare matches and pending handlers (40_timers.md R70, R71), elapsed time
(43_sync_arbitrator.md R105, R106), and the interrupt sources' enables and pending flags (60_exceptions.md R128). -/

namespace Sys2Proof.Machine

/-- The pending flag of a channel after the counter took the value `now`: a match sets it iff the channel is enabled, and
nothing here clears it (40_timers.md R70, R71). -/
def flagAfterMatch (flag enable : Bool) (now compare : TimerWord) : Bool :=
  flag || (enable && now == compare)

/-- The enabling condition of `COMPA` (41_pulse_cursor.md R81). -/
def State.compaDue (s : State) : Bool := s.ifa && s.iea

/-- The enabling condition of `COMPB` (41_pulse_cursor.md R82). -/
def State.compbDue (s : State) : Bool := s.ifb && s.ieb

/-- The hardware event that is enabled, if one is. DESIGN CHOICE (safe, log entry 6): `COMPA` first if both were, which no
reachable state shows (10_state.md R35 (I1), (I3)). -/
def State.dueEvent (s : State) : Option Instr :=
  if s.compaDue then some .compa else if s.compbDue then some .compb else none

/-- `(ms - last_frame_time) mod 2^32` (43_sync_arbitrator.md R105, R106). -/
def State.elapsedMs (s : State) : Nat := (s.ms - s.lastFrameTime).toNat

/-- The free-run period is reached, `>=` (R105). -/
def State.periodReached (s : State) : Bool := decide (s.params.freerunPeriodMs ≤ s.elapsedMs)

/-- The liveness timeout is reached, `>=` (R106). -/
def State.timeoutReached (s : State) : Bool := decide (s.params.timeoutMs ≤ s.elapsedMs)

/-- The interrupt sources, the pulse timer with its two vectors (60_exceptions.md R128, 90_conflicts.md C11). -/
inductive InterruptSource where
  | compareA
  | compareB
  | syncEdge
  | msTick
deriving DecidableEq, Repr

/-- The column "enable" of R128's table; the millisecond tick is always enabled. -/
def State.sourceEnabled (s : State) : InterruptSource → Bool
  | .compareA => s.iea
  | .compareB => s.ieb
  | .syncEdge => s.extIe
  | .msTick => true

/-- The column "pending" of R128's table; the last two sources have no flag. -/
def State.sourcePending (s : State) : InterruptSource → Bool
  | .compareA => s.ifa
  | .compareB => s.ifb
  | .syncEdge => false
  | .msTick => false

end Sys2Proof.Machine
end

