-- ==== Sys2Proof/Machine/Ops.lean ====
section
/-! DEFINITION. Registration followed by reset, and the operations shared by the meanings: raising a fault, reading the selected table, `begin_token`, and the
derived views of the state (outputs and phase). -/

namespace Sys2Proof.Machine

/-- Registration and then reset, in the order of 70_reset_and_hazards.md R147: a configuration that fails 00_scope.md R6 or WF1 to
WF4 is refused and gets no state at all (20_memory.md R42, R53, R54). -/
def powerUp (p : Params) : Result :=
  if registered : p.wf = true then .next (State.resetWith p registered)
  else .refused .configurationNotWellFormed

/-- `raise <Fault>` (00_scope.md R9): sets the sticky fault element; what follows it in the pseudocode is not written. The
operation's result is a next state, and the machine stops at the step after it (60_exceptions.md R126; log entry 7). -/
def raise (f : Fault) (s : State) : State := { s with fault := some f }

/-- `TABLE` (20_memory.md R52). -/
abbrev State.table (s : State) : Table := s.params.table

/-- `begin_token(t, delay)` (41_pulse_cursor.md R80). -/
def beginToken (t : TokenIndex) (delay : Nat) (s : State) : State :=
  if s.table.countOf t = 0#8 then s
  else
    let now := if s.run then s.cnt else 0#16
    { s with
      currentToken := t
      cursor := s.table.startOf t
      endIndex := s.table.startOf t + s.table.countOf t
      cnt := now
      run := true
      ocra := now + BitVec.ofNat 16 delay
      iea := true
      ieb := false
      statusFrame := true }

/-- The "device syncing" output: at every instant equal to `active` (10_state.md R32). -/
def State.statusSync (s : State) : Bool := s.active

/-- What can be observed from outside (43_sync_arbitrator.md R113, 60_exceptions.md R135): the emitter line, the
"between-frames" status and the "device syncing" status. -/
structure Outputs where
  irOut : Bool
  statusFrame : Bool
  statusSync : Bool
deriving DecidableEq, Repr

/-- The three outputs of a state. -/
def State.outputs (s : State) : Outputs :=
  { irOut := s.irOut, statusFrame := s.statusFrame, statusSync := s.statusSync }

/-- The states of the chain (10_state.md R34). -/
inductive Phase where
  | idle
  | awaitingPan
  | transmittingMark
  | transmittingSpace
deriving DecidableEq, Repr

/-- The phase is a function of the state (10_state.md R34). -/
def State.phase (s : State) : Phase :=
  if !s.run then .idle
  else if s.ieb then .transmittingMark
  else if s.cursor = s.table.startOf s.currentToken then .awaitingPan
  else .transmittingSpace

end Sys2Proof.Machine
end

