-- ==== Sys2Proof/Machine/TokenSequencer.lean ====
section
/-! DEFINITION. The Token Sequencer's procedures (42_token_sequencer.md). -/

namespace Sys2Proof.Machine

/-- `end_frame()` (42_token_sequencer.md R91). -/
def endFrame (s : State) : State :=
  { s with run := false, iea := false, ieb := false, statusFrame := false }

/-- `cancel_chain()` (42_token_sequencer.md R92). -/
def cancelChain (s : State) : State :=
  { s with
    run := false
    iea := false
    ieb := false
    ifa := false
    ifb := false
    cursor := 0#8
    endIndex := 0#8
    irOut := false
    statusFrame := false }

/-- `end_of_token()` (42_token_sequencer.md R90). -/
def endOfToken (s : State) : State :=
  let t := s.currentToken
  let s' := { s with ieb := false }
  if isOpeningSlot t && s.table.countOf (t + 1#2) != 0#8 then
    beginToken (t + 1#2) s.params.gapTicks s'
  else endFrame s'

end Sys2Proof.Machine
end

