-- ==== Sys2Proof/Machine/PulseCursor.lean ====
section
/-! DEFINITION. The Pulse Cursor Engine's two handlers: `COMPA`, `COMPB` (41_pulse_cursor.md). -/

namespace Sys2Proof.Machine

/-- A sample as timer ticks: `2 * sample`, one tick being half a microsecond (30_encoding.md R59). -/
def sampleTicks (v : Sample) : TimerWord := 2#16 * v

/-- The pseudocode of `COMPA` (41_pulse_cursor.md R81). -/
def risingEdge (s : State) : State :=
  let s' := { s with ifa := false, irOut := true }
  match s.table.sampleAt s.cursor with
  | none => raise .tableBounds s'
  | some v =>
    { s' with
      cursor := s.cursor + 1#8
      ocrb := s.cnt + sampleTicks v
      iea := false
      ieb := true }

/-- `COMPA` (41_pulse_cursor.md R81), enabled iff `ifa = 1 and iea = 1`. -/
def execCompa (s : State) : Result :=
  if s.compaDue then .next (risingEdge s) else .refused .compaNotEnabled

/-- The pseudocode of `COMPB` (41_pulse_cursor.md R82). -/
def fallingEdge (s : State) : State :=
  let s' := { s with ifb := false, irOut := false }
  if s.cursor = s.endIndex then endOfToken s'
  else
    match s.table.sampleAt s.cursor with
    | none => raise .tableBounds s'
    | some v =>
      { s' with
        cursor := s.cursor + 1#8
        ocra := s.cnt + sampleTicks v
        iea := true
        ieb := false }

/-- `COMPB` (41_pulse_cursor.md R82), enabled iff `ifb = 1 and ieb = 1`. -/
def execCompb (s : State) : Result :=
  if s.compbDue then .next (fallingEdge s) else .refused .compbNotEnabled

end Sys2Proof.Machine
end

