-- ==== Sys2Proof/Machine/SyncArbitrator.lean ====
section
/-! DEFINITION. The Sync Arbitrator (43_sync_arbitrator.md): `SYNCIN`, `PKT`, `POLLF`, `POLLL`, `MODE`, `SWAP`, `MEMRD`, `MEMWR`,
`MEMCLR` and the procedures `set_eye`, `start_frame`, `ext_edge`. -/

namespace Sys2Proof.Machine

/-- `set_eye(e)` (43_sync_arbitrator.md R100). -/
def setEye (e : Eye) (s : State) : State :=
  { s with nextEye := e.xorSwap s.swapEyes, synced := true }

/-- `start_frame()` (43_sync_arbitrator.md R101). -/
def startFrame (s : State) : State :=
  if s.run then raise .frameOverlap s
  else
    beginToken s.nextEye.openingSlot s.params.panTicks
      { s with active := true, currentEye := s.nextEye, lastFrameTime := s.ms, synced := false }

/-- `ext_edge()` (43_sync_arbitrator.md R103). -/
def extEdge (s : State) : State :=
  if !s.mode.requiresExternal then s
  else if s.mode = .combined ∧ s.synced then startFrame s
  else
    let s' := setEye (s.params.levelEye s.syncIn) s
    if s.mode = .external ∨ (s.mode = .combined ∧ s.params.combinedEdgeStartsUnstaged) then startFrame s'
    else s'

/-- `SYNCIN l` (43_sync_arbitrator.md R102). -/
def execSyncin (level : Bool) (s : State) : Result :=
  let s' := { s with syncIn := level }
  if s.syncIn ≠ level ∧ s.extIe then .next (extEdge s') else .next s'

/-- `PKT m, s` (43_sync_arbitrator.md R104). Both tests ignore the packet, so their order is not observable; the mode's is
made first. -/
def execPkt (marker selector : Byte) (s : State) : Result :=
  if !s.mode.requiresDriver then .next s
  else if marker ≠ s.params.hostMarker then .next s
  else
    let s' := setEye (s.params.selectorEye selector) s
    if s.mode = .driver then .next (startFrame s') else .next s'

/-- `POLLF` (43_sync_arbitrator.md R105): the flip bypasses `set_eye`. -/
def execPollf (s : State) : Result :=
  if s.mode = .freerun ∧ s.periodReached then
    .next (startFrame { s with nextEye := s.currentEye.other })
  else .next s

/-- `POLLL` (43_sync_arbitrator.md R106). -/
def execPolll (s : State) : Result :=
  if s.active && s.timeoutReached then .next { s with active := false } else .next s

/-- The selection of a legal mode (43_sync_arbitrator.md R107). -/
def selectMode (m : Mode) (s : State) : State :=
  { cancelChain s with mode := m, synced := false, active := false, extIe := m.requiresExternal }

/-- `MODE m` (43_sync_arbitrator.md R107): codes above 4 are ignored. -/
def execMode (code : Byte) (s : State) : Result :=
  match Mode.ofCode code with
  | none => .next s
  | some m => .next (selectMode m s)

/-- `SWAP` (43_sync_arbitrator.md R108). -/
def execSwap (s : State) : Result := .next { s with swapEyes := !s.swapEyes }

/-- A memory-block request passes through untouched: no state element is read or written (43_sync_arbitrator.md R109). -/
def passThrough (_a _b : Byte) (s : State) : State := s

/-- `MEMRD a, b` (43_sync_arbitrator.md R109). -/
def execMemrd (a b : Byte) (s : State) : Result := .next (passThrough a b s)

/-- `MEMWR a, b` (43_sync_arbitrator.md R109). -/
def execMemwr (a b : Byte) (s : State) : Result := .next (passThrough a b s)

/-- `MEMCLR a, b` (43_sync_arbitrator.md R109). -/
def execMemclr (a b : Byte) (s : State) : Result := .next (passThrough a b s)

end Sys2Proof.Machine
end

