-- ==== Sys2Proof/Machine/Timers.lean ====
section
/-! DEFINITION. The hardware timer and the millisecond clock: `TICK`, `MSTICK` (40_timers.md). -/

namespace Sys2Proof.Machine

/-- The pseudocode of `TICK` (40_timers.md R70): a stopped timer holds. -/
def tickTimer (s : State) : State :=
  if s.run then
    let now := s.cnt + 1#16
    { s with
      cnt := now
      ifa := flagAfterMatch s.ifa s.iea now s.ocra
      ifb := flagAfterMatch s.ifb s.ieb now s.ocrb }
  else s

/-- `TICK` (40_timers.md R70): it cannot be performed while a compare handler is due. -/
def execTick (s : State) : Result :=
  if s.compaDue || s.compbDue then .refused .tickNotEnabled else .next (tickTimer s)

/-- `MSTICK` (40_timers.md R75). -/
def execMstick (s : State) : Result := .next { s with ms := s.ms + 1#32 }

end Sys2Proof.Machine
end

