-- ==== Sys2Proof/Machine/Dispatch.lean ====
section
/-! DEFINITION. One arm per operation, each one call of its meaning. -/

namespace Sys2Proof.Machine

def exec (i : Instr) (s : State) : Host.Outcome State Fault Refusal :=
  match i with
  | .tick => Sys2Proof.Machine.execTick s
  | .mstick => Sys2Proof.Machine.execMstick s
  | .syncin level => Sys2Proof.Machine.execSyncin level s
  | .pkt marker selector => Sys2Proof.Machine.execPkt marker selector s
  | .mode code => Sys2Proof.Machine.execMode code s
  | .swap => Sys2Proof.Machine.execSwap s
  | .pollf => Sys2Proof.Machine.execPollf s
  | .polll => Sys2Proof.Machine.execPolll s
  | .memrd a b => Sys2Proof.Machine.execMemrd a b s
  | .memwr a b => Sys2Proof.Machine.execMemwr a b s
  | .memclr a b => Sys2Proof.Machine.execMemclr a b s
  | .compa => Sys2Proof.Machine.execCompa s
  | .compb => Sys2Proof.Machine.execCompb s

end Sys2Proof.Machine
end

