-- ==== Sys2Proof/WellFormed.lean ====
section
/-! DEFINITION. Which operations are legal (30_encoding.md R61). The well-formedness of tables and parameters is in
Machine/Registration.lean. -/

namespace Sys2Proof

/-- An operation is legal iff its operands are (30_encoding.md R61); only the mode code can break it here, since a `SYNCIN`
level is one bit and every must-be-zero byte is absent. -/
abbrev Instr.WellFormed : Instr → Prop
  | .mode code => code ≤ 4#8
  | .tick => True
  | .mstick => True
  | .syncin _ => True
  | .pkt _ _ => True
  | .swap => True
  | .pollf => True
  | .polll => True
  | .memrd _ _ => True
  | .memwr _ _ => True
  | .memclr _ _ => True
  | .compa => True
  | .compb => True

end Sys2Proof
end

