-- ==== Sys2Proof/Decode.lean ====
section
/-! DEFINITION. Decoding of operation words, total and by name (30_encoding.md R60 to R63), the encoder, and the opcode table's
match and mask of every row (spec/opcode_table.json). -/

namespace Sys2Proof

/-- Why a word is no operation (30_encoding.md R63). -/
inductive DecodeError where
  /-- (a): `op` is not in R62's table. -/
  | reservedOpcode
  /-- (b): an operand byte that must be zero is not (R61). -/
  | operandNotZero
  /-- (b): a `SYNCIN` level above 1 (R61). -/
  | levelAboveOne
  /-- (b): a `MODE` code above 4 (R61). -/
  | modeAboveFour
deriving DecidableEq, Repr

/-- `op = w[23:16]` (30_encoding.md R60). -/
def opField (w : OpWord) : Byte := w.extractLsb' 16 8

/-- `a = w[15:8]` (R60). -/
def aField (w : OpWord) : Byte := w.extractLsb' 8 8

/-- `b = w[7:0]` (R60). -/
def bField (w : OpWord) : Byte := w.extractLsb' 0 8

/-- `w = op, a, b` from the high byte down (R60). -/
def opWord (op a b : Byte) : OpWord := op ++ a ++ b

/-- An operation without operands needs `a = b = 0` (R61). -/
def decodePlain (i : Instr) (a b : Byte) : Except DecodeError Instr :=
  if a = 0#8 ∧ b = 0#8 then .ok i else .error .operandNotZero

/-- `SYNCIN`: `a` must be 0 and the level is `b`, legal iff `b <= 1` (R61). -/
def decodeSyncin (a b : Byte) : Except DecodeError Instr :=
  if a ≠ 0#8 then .error .operandNotZero
  else if b ≤ 1#8 then .ok (.syncin (b == 1#8))
  else .error .levelAboveOne

/-- `MODE`: `a` must be 0 and the code is `b`, legal iff `b <= 4` (R61). -/
def decodeMode (a b : Byte) : Except DecodeError Instr :=
  if a ≠ 0#8 then .error .operandNotZero
  else if b ≤ 4#8 then .ok (.mode b)
  else .error .modeAboveFour

/-- The operation that the fields of a word select (30_encoding.md R62). -/
def decodeFields (op a b : Byte) : Except DecodeError Instr :=
  if op = 0x01#8 then decodePlain .tick a b
  else if op = 0x02#8 then decodePlain .mstick a b
  else if op = 0x03#8 then decodeSyncin a b
  else if op = 0x10#8 then .ok (.pkt a b)
  else if op = 0x11#8 then decodeMode a b
  else if op = 0x12#8 then decodePlain .swap a b
  else if op = 0x20#8 then decodePlain .pollf a b
  else if op = 0x21#8 then decodePlain .polll a b
  else if op = 0x30#8 then .ok (.memrd a b)
  else if op = 0x31#8 then .ok (.memwr a b)
  else if op = 0x32#8 then .ok (.memclr a b)
  else if op = 0x80#8 then decodePlain .compa a b
  else if op = 0x81#8 then decodePlain .compb a b
  else .error .reservedOpcode

/-- Decoding does not depend on any state (30_encoding.md R65). -/
def decode (w : OpWord) : Except DecodeError Instr :=
  decodeFields (opField w) (aField w) (bField w)

/-- The operation selector of R62's map. -/
def Instr.opcode : Instr → Byte
  | .tick => 0x01#8
  | .mstick => 0x02#8
  | .syncin _ => 0x03#8
  | .pkt _ _ => 0x10#8
  | .mode _ => 0x11#8
  | .swap => 0x12#8
  | .pollf => 0x20#8
  | .polll => 0x21#8
  | .memrd _ _ => 0x30#8
  | .memwr _ _ => 0x31#8
  | .memclr _ _ => 0x32#8
  | .compa => 0x80#8
  | .compb => 0x81#8

/-- The first operand byte (R61). -/
def Instr.aByte : Instr → Byte
  | .pkt marker _ => marker
  | .memrd a _ => a
  | .memwr a _ => a
  | .memclr a _ => a
  | .tick => 0#8
  | .mstick => 0#8
  | .syncin _ => 0#8
  | .mode _ => 0#8
  | .swap => 0#8
  | .pollf => 0#8
  | .polll => 0#8
  | .compa => 0#8
  | .compb => 0#8

/-- The second operand byte (R61). -/
def Instr.bByte : Instr → Byte
  | .syncin level => if level then 1#8 else 0#8
  | .pkt _ selector => selector
  | .mode code => code
  | .memrd _ b => b
  | .memwr _ b => b
  | .memclr _ b => b
  | .tick => 0#8
  | .mstick => 0#8
  | .swap => 0#8
  | .pollf => 0#8
  | .polll => 0#8
  | .compa => 0#8
  | .compb => 0#8

/-- The operation word of an operation (30_encoding.md R60 to R62). -/
def encode (i : Instr) : OpWord := opWord i.opcode i.aByte i.bByte

/-- "match" of the row of spec/opcode_table.json. -/
def Instr.rowMatch (i : Instr) : OpWord := opWord i.opcode 0#8 0#8

/-- "mask" of the row of spec/opcode_table.json. -/
def Instr.rowMask : Instr → OpWord
  | .syncin _ => 0xFFFFFE#24
  | .mode _ => 0xFFFFF8#24
  | .pkt _ _ => 0xFF0000#24
  | .memrd _ _ => 0xFF0000#24
  | .memwr _ _ => 0xFF0000#24
  | .memclr _ _ => 0xFF0000#24
  | .tick => 0xFFFFFF#24
  | .mstick => 0xFFFFFF#24
  | .swap => 0xFFFFFF#24
  | .pollf => 0xFFFFFF#24
  | .polll => 0xFFFFFF#24
  | .compa => 0xFFFFFF#24
  | .compb => 0xFFFFFF#24

/-- The operation that the decoder reads from the table's numbering of the bits: one word of 24 bits (30_encoding.md R60). -/
def decodeTableWord (nbits w : Nat) : Option Instr :=
  if 24 < nbits ∨ 2 ^ 24 ≤ w then none
  else
    match decode (BitVec.ofNat 24 w) with
    | .ok i => some i
    | .error _ => none

end Sys2Proof
end

