-- ==== Sys2Proof/Machine/Fetch.lean ====
section
/-! DEFINITION. Which operation the next step performs: the block has no program counter over instructions, so the next
operation word, a due compare handler, or nothing is chosen here from the state (00_scope.md R7, R8; 30_encoding.md R63, R67, R68;
40_timers.md R70; 43_sync_arbitrator.md R110). -/

namespace Sys2Proof.Machine

/-- What the next step does. -/
inductive Selection where
  /-- Perform an operation in a state. -/
  | perform (i : Instr) (s : State)
  /-- Perform none: a word is ignored, or nothing is enabled. -/
  | idle (s : State)
  /-- The machine has stopped with a fault. -/
  | halted (f : Fault)
deriving DecidableEq, Repr

/-- Whether a word waits until a due handler has run. `TICK` always does (40_timers.md R70); an event word records the handler
itself (30_encoding.md R63 (c)) and never does; any other word does under the eager schedule (R67). -/
def waitsForHandler (schedule : Schedule) (decoded : Except DecodeError Instr) : Bool :=
  match decoded with
  | .ok .tick => true
  | .ok .compa => false
  | .ok .compb => false
  | _ => schedule == .eager

/-- The first word is taken from the list and performed, or ignored if it is reserved or illegal
(43_sync_arbitrator.md R110). -/
def takeWord (decoded : Except DecodeError Instr) (rest : List OpWord) (s : State) : Selection :=
  match decoded with
  | .ok i => .perform i { s with trace := rest }
  | .error _ => .idle { s with trace := rest }

/-- The choice among a due handler, the next word and neither. DESIGN CHOICE (safe, log entries 5 and 11): with no word left a
due handler runs, and with none due the block is idle and waits. -/
def selectOperation (s : State) : Selection :=
  match s.trace, s.dueEvent with
  | [], some e => .perform e s
  | [], none => .idle s
  | w :: rest, some e =>
    if waitsForHandler s.schedule (decode w) then .perform e s else takeWord (decode w) rest s
  | w :: rest, none => takeWord (decode w) rest s

/-- After a fault the machine stops (60_exceptions.md R126, R133). -/
def select (s : State) : Selection :=
  match s.fault with
  | some f => .halted f
  | none => selectOperation s

/-- The state in which `w` is the next operation word to be performed, in the order written. -/
def placeWord (w : OpWord) (s : State) : State :=
  { s with trace := w :: s.trace, schedule := .asWritten }

end Sys2Proof.Machine
end

