-- ==== Sys2Proof/Machine/Step.lean ====
section
/-! DEFINITION. One step of the machine: one atomic operation (00_scope.md R8). -/

namespace Sys2Proof.Machine

/-- One step: the operation that `select` chooses is performed. -/
def step (s : State) : Host.Outcome State Fault Refusal :=
  match select s with
  | .perform i s' => exec i s'
  | .idle s' => .next s'
  | .halted f => .fault f

/-- The state whose next step performs the word `w` of the opcode table's numbering (log entry 4). Every operation word has
24 bits, so `nbits` plays no part. -/
def State.withFetchWord (s : State) (_nbits w : Nat) : State := placeWord (BitVec.ofNat 24 w) s

end Sys2Proof.Machine
end

