-- ==== Sys2Proof/Machine/Script.lean ====
section
/-! DEFINITION. Stimulus scripts (30_encoding.md R66 to R68): the assembler syntax, the pseudo-operations `SERVICE`, `TICKS` and
`WAITMS` with their meanings, and the end of a script. -/

namespace Sys2Proof.Machine

/-- An operation's effect as a function of the state: the machine does not move after a fault (60_exceptions.md R126), nor where
the operation is not enabled. -/
def performed (i : Instr) (s : State) : State :=
  match s.fault with
  | some _ => s
  | none =>
    match exec i s with
    | .next t => t
    | .fault _ => s
    | .refused _ => s

/-- The due handler, if there is one. -/
def serviceOnce (s : State) : State :=
  match s.dueEvent with
  | some e => performed e s
  | none => s

/-- `SERVICE` (30_encoding.md R67): while a handler is enabled, perform it. Each handler clears its own flag and none sets one, so
two rounds reach the end from every state. -/
def service (s : State) : State := serviceOnce (serviceOnce s)

/-- `TICKS n` (R67): `n` times `SERVICE`, `TICK`; then `SERVICE`. -/
def ticks : Nat → State → State
  | 0, s => service s
  | n + 1, s => ticks n (performed .tick (service s))

/-- `WAITMS n` (R67): `n` times `TICKS 2000`, `MSTICK`. -/
def waitMs : Nat → State → State
  | 0, s => s
  | n + 1, s => waitMs n (performed .mstick (ticks 2000 s))

/-- A line of a script (R66, R67). A word may be reserved or illegal: it is then ignored (43_sync_arbitrator.md R110). -/
inductive Line where
  | word (w : OpWord)
  | service
  | ticks (n : Nat)
  | waitMs (n : Nat)
deriving DecidableEq, Repr

/-- The stimulus words of one `WAITMS` round. -/
def millisecondWords : List OpWord := List.replicate 2000 (encode .tick) ++ [encode .mstick]

/-- The stimulus words of a line; the event words that `SERVICE` assembles to are those the eager schedule performs. -/
def Line.words : Line → List OpWord
  | .word w => [w]
  | .service => []
  | .ticks n => List.replicate n (encode .tick)
  | .waitMs n => (List.replicate n millisecondWords).flatten

/-- A script is loaded from outside the machine and runs under the eager schedule (R67). -/
def loadScript (lines : List Line) (s : State) : State :=
  { s with trace := (lines.map Line.words).flatten, schedule := .eager }

/-- The end state of a script is quiescent (R68). -/
def State.quiescent (s : State) : Bool := s.fault.isNone && s.dueEvent.isNone

/-- The end state of a script is idle (R68). -/
def State.idleAtEnd (s : State) : Bool := s.quiescent && !s.run

/-- A decimal digit's value. -/
def decimalDigit (c : Char) : Option Nat :=
  if 48 ≤ c.toNat ∧ c.toNat ≤ 57 then some (c.toNat - 48) else none

/-- A hexadecimal digit's value. DESIGN CHOICE (log entry 12): both cases of the letters. -/
def hexDigit (c : Char) : Option Nat :=
  if 48 ≤ c.toNat ∧ c.toNat ≤ 57 then some (c.toNat - 48)
  else if 65 ≤ c.toNat ∧ c.toNat ≤ 70 then some (c.toNat - 55)
  else if 97 ≤ c.toNat ∧ c.toNat ≤ 102 then some (c.toNat - 87)
  else none

/-- A nonempty row of digits in a base. -/
def digitsValue (base : Nat) (digit : Char → Option Nat) (cs : List Char) : Option Nat :=
  if cs.isEmpty then none
  else cs.foldl (fun acc c => acc.bind fun n => (digit c).map fun d => base * n + d) (some 0)

/-- A number: decimal, or hexadecimal after `0x` (R66). -/
def numberOf : List Char → Option Nat
  | '0' :: 'x' :: cs => digitsValue 16 hexDigit cs
  | cs => digitsValue 10 decimalDigit cs

/-- A number that fits an operand byte. -/
def byteOf (cs : List Char) : Option Byte :=
  (numberOf cs).bind fun n => if n ≤ 255 then some (BitVec.ofNat 8 n) else none

/-- The mode operand may be written by name (R66). -/
def modeOperand (cs : List Char) : Option Byte :=
  if cs = ['N', 'O', 'N', 'E'] then some Mode.none.code
  else if cs = ['D', 'R', 'I', 'V', 'E', 'R'] then some Mode.driver.code
  else if cs = ['E', 'X', 'T', 'E', 'R', 'N', 'A', 'L'] then some Mode.external.code
  else if cs = ['C', 'O', 'M', 'B', 'I', 'N', 'E', 'D'] then some Mode.combined.code
  else if cs = ['F', 'R', 'E', 'E', 'R', 'U', 'N'] then some Mode.freerun.code
  else byteOf cs

/-- Spaces at both ends removed. -/
def trimmed (cs : List Char) : List Char :=
  ((cs.dropWhile (· == ' ')).reverse.dropWhile (· == ' ')).reverse

/-- A line that takes no operand. -/
def lineNone (op : Byte) (operands : List (List Char)) : Option Line :=
  if operands.isEmpty then some (.word (opWord op 0#8 0#8)) else none

/-- A line whose one operand is the byte `b`. -/
def lineOne (op : Byte) (read : List Char → Option Byte) : List (List Char) → Option Line
  | [x] => (read x).map fun b => .word (opWord op 0#8 b)
  | _ => none

/-- A line whose operands are the bytes `a` and `b`. -/
def lineTwo (op : Byte) : List (List Char) → Option Line
  | [x, y] => (byteOf x).bind fun a => (byteOf y).map fun b => .word (opWord op a b)
  | _ => none

/-- A line whose one operand is a count. -/
def lineCount (build : Nat → Line) : List (List Char) → Option Line
  | [x] => (numberOf x).map build
  | _ => none

/-- A mnemonic of R62 or a pseudo-operation of R67 with its operands. -/
def assembleTokens (mnemonic : List Char) (operands : List (List Char)) : Option Line :=
  if mnemonic = ['T', 'I', 'C', 'K'] then lineNone 0x01#8 operands
  else if mnemonic = ['M', 'S', 'T', 'I', 'C', 'K'] then lineNone 0x02#8 operands
  else if mnemonic = ['S', 'Y', 'N', 'C', 'I', 'N'] then lineOne 0x03#8 byteOf operands
  else if mnemonic = ['P', 'K', 'T'] then lineTwo 0x10#8 operands
  else if mnemonic = ['M', 'O', 'D', 'E'] then lineOne 0x11#8 modeOperand operands
  else if mnemonic = ['S', 'W', 'A', 'P'] then lineNone 0x12#8 operands
  else if mnemonic = ['P', 'O', 'L', 'L', 'F'] then lineNone 0x20#8 operands
  else if mnemonic = ['P', 'O', 'L', 'L', 'L'] then lineNone 0x21#8 operands
  else if mnemonic = ['M', 'E', 'M', 'R', 'D'] then lineTwo 0x30#8 operands
  else if mnemonic = ['M', 'E', 'M', 'W', 'R'] then lineTwo 0x31#8 operands
  else if mnemonic = ['M', 'E', 'M', 'C', 'L', 'R'] then lineTwo 0x32#8 operands
  else if mnemonic = ['C', 'O', 'M', 'P', 'A'] then lineNone 0x80#8 operands
  else if mnemonic = ['C', 'O', 'M', 'P', 'B'] then lineNone 0x81#8 operands
  else if mnemonic = ['S', 'E', 'R', 'V', 'I', 'C', 'E'] then
    if operands.isEmpty then some .service else none
  else if mnemonic = ['T', 'I', 'C', 'K', 'S'] then lineCount .ticks operands
  else if mnemonic = ['W', 'A', 'I', 'T', 'M', 'S'] then lineCount .waitMs operands
  else none

/-- The operands of a line, separated by commas (R66). -/
def operandsOf (cs : List Char) : List (List Char) :=
  if (trimmed cs).isEmpty then [] else (cs.splitOn ',').map trimmed

/-- One line of text: the part before `;`, a mnemonic and its operands (R66). A line of comment or spaces alone is
`some none`. -/
def assembleLine (text : List Char) : Option (Option Line) :=
  let code := trimmed (text.takeWhile (· != ';'))
  if code.isEmpty then some none
  else
    (assembleTokens (code.takeWhile (· != ' ')) (operandsOf (code.dropWhile (· != ' ')))).map some

end Sys2Proof.Machine
end

