-- ==== Sys2Proof/Safety.lean ====
section
/-! DEFINITION. What claims about runs are stated in: the chain invariant of 10_state.md R35, the level of the emitter line that
the waveform and frame laws prescribe (41_pulse_cursor.md R84, 42_token_sequencer.md R94). -/

namespace Sys2Proof.Machine

/-- The engine's part of R35 that does not read the table: (I1) to (I5), (I8), (I9). (I7) holds by the type of `mode`. -/
structure EngineInv (s : State) : Prop where
  /-- (I1) -/
  notBothArmed : ¬(s.iea = true ∧ s.ieb = true)
  /-- (I2), idle -/
  idleUnarmed : s.run = false → s.iea = false ∧ s.ieb = false
  /-- (I2), active -/
  activeArmed : s.run = true → s.iea = true ∨ s.ieb = true
  /-- (I3), channel A -/
  pendingA : s.ifa = true → s.iea = true
  /-- (I3), channel B -/
  pendingB : s.ifb = true → s.ieb = true
  /-- (I4) -/
  statusIsRun : s.statusFrame = s.run
  /-- (I5) -/
  markIsArmedB : s.irOut = s.ieb
  /-- (I8) -/
  edgeEnable : s.extIe = s.mode.requiresExternal
  /-- (I9), channel A -/
  matchedA : s.ifa = true → s.cnt = s.ocra
  /-- (I9), channel B -/
  matchedB : s.ifb = true → s.cnt = s.ocrb

/-- (I6) of R35, with what makes it hold at the next step: the slot is present, and the number of samples consumed is even while
the rising edge is awaited and odd during a mark (41_pulse_cursor.md R84, 20_memory.md R42 WF2). -/
structure CursorInv (s : State) : Prop where
  present : s.run = true → s.table.countOf s.currentToken ≠ 0#8
  startLe : s.run = true → (s.table.startOf s.currentToken).toNat ≤ s.cursor.toNat
  cursorLe : s.run = true → s.cursor.toNat ≤ s.endIndex.toNat
  endIs : s.run = true →
    s.endIndex.toNat = (s.table.startOf s.currentToken).toNat + (s.table.countOf s.currentToken).toNat
  parityA : s.iea = true → (s.cursor.toNat - (s.table.startOf s.currentToken).toNat) % 2 = 0
  parityB : s.ieb = true → (s.cursor.toNat - (s.table.startOf s.currentToken).toNat) % 2 = 1

/-- The invariant of 10_state.md R35. Its premise, the well-formed table, is a field of State. -/
structure ChainInv (s : State) : Prop where
  engine : EngineInv s
  cursor : CursorInv s

/-- `synced = 1` is reachable only in mode `COMBINED` (43_sync_arbitrator.md R111), in runs without a fault. -/
def StagedOnlyInCombined (s : State) : Prop :=
  s.fault = none → s.synced = true → s.mode = .combined

/-- The trigger `i` authorizes a frame start in `s`: it reaches `start_frame` (43_sync_arbitrator.md R103, R104, R105, R112). -/
def AuthorizesFrame (i : Instr) (s : State) : Prop :=
  match i with
  | .syncin level =>
    level ≠ s.syncIn ∧ s.extIe = true ∧
      (s.mode = .external ∨
        (s.mode = .combined ∧ (s.synced = true ∨ s.params.combinedEdgeStartsUnstaged = true)))
  | .pkt marker _ => marker = s.params.hostMarker ∧ s.mode = .driver
  | .pollf => s.mode = .freerun ∧ s.params.freerunPeriodMs ≤ s.elapsedMs
  | .tick => False
  | .mstick => False
  | .mode _ => False
  | .swap => False
  | .polll => False
  | .memrd _ _ => False
  | .memwr _ _ => False
  | .memclr _ _ => False
  | .compa => False
  | .compb => False

/-- The samples of slot `t`, as numbers of microseconds. -/
def slotSamples (T : Table) (t : TokenIndex) : List Nat :=
  ((T.samples.drop (T.startOf t).toNat).take (T.countOf t).toNat).map BitVec.toNat

/-- The length of a token from its first rising to its last falling edge, in ticks (41_pulse_cursor.md R84). -/
def slotTicks (T : Table) (t : TokenIndex) : Nat := 2 * (slotSamples T t).sum

/-- The line is high `j` ticks after a `begin_token` with delay `d`: some mark, a sample at an even offset `k`, has begun and not
ended (41_pulse_cursor.md R84). -/
def MarkAt (d : Nat) (samples : List Nat) (j : Nat) : Prop :=
  ∃ k, k % 2 = 0 ∧ k < samples.length ∧
    d + 2 * (samples.take k).sum ≤ j ∧ j < d + 2 * (samples.take (k + 1)).sum

end Sys2Proof.Machine
end

