-- ==== Sys2Proof/Certificates/Slice0/Obligations.lean ====
section
/-! DEFINITION. The statements for the provers, from the numbered rules of spec/. -/

open Sys2Proof Sys2Proof.Machine

/-! ### Reset and the invariants -/

/-- 70_reset_and_hazards.md R145: the reset table, for every `RESET_MODE` and `RESET_EYE`, and the two defaults. The model's own
fields (log entries 1, 4, 5, 10) are not spoken of. -/
def Obligations.ResetLeavesTheStatedValues : Prop :=
  (∀ (p : Params) (h : p.wf = true),
    (State.resetWith p h).currentEye = p.resetEye ∧ (State.resetWith p h).nextEye = p.resetEye ∧
    (State.resetWith p h).swapEyes = false ∧ (State.resetWith p h).synced = false ∧
    (State.resetWith p h).active = false ∧ (State.resetWith p h).lastFrameTime = 0#32 ∧
    (State.resetWith p h).currentToken = 0#2 ∧
    (State.resetWith p h).cursor = 0#8 ∧ (State.resetWith p h).endIndex = 0#8 ∧
    (State.resetWith p h).mode = p.resetMode ∧
    (State.resetWith p h).cnt = 0#16 ∧ (State.resetWith p h).ocra = 0#16 ∧ (State.resetWith p h).ocrb = 0#16 ∧
    (State.resetWith p h).run = false ∧
    (State.resetWith p h).iea = false ∧ (State.resetWith p h).ieb = false ∧
    (State.resetWith p h).ifa = false ∧ (State.resetWith p h).ifb = false ∧
    ((State.resetWith p h).extIe = true ↔ p.resetMode = .external ∨ p.resetMode = .combined) ∧
    (State.resetWith p h).syncIn = false ∧ (State.resetWith p h).ms = 0#32 ∧
    (State.resetWith p h).irOut = false ∧ (State.resetWith p h).statusFrame = false ∧
    (State.resetWith p h).statusSync = false ∧ (State.resetWith p h).fault = none) ∧
  State.reset = State.resetWith Params.default Params.default_wf ∧
  Params.default.resetMode = .none ∧ Params.default.resetEye = .right

/-- 70_reset_and_hazards.md R146: `MODE RESET_MODE` takes the all-zero state (zero but for the two eyes) to the reset state; the
reset state satisfies R35; with `RESET_MODE = NONE` the mode is `NONE` and the edge disabled, and in every such state each trigger
is ignored (the line's level is recorded, R102) and every operation but `MODE` leaves it such. -/
def Obligations.ResetIsAModeSelectionFromZero : Prop :=
  (∀ (p : Params) (h : p.wf = true),
    exec (.mode p.resetMode.code) { State.resetWith p h with mode := .none, extIe := false } =
      .next (State.resetWith p h) ∧
    ChainInv (State.resetWith p h) ∧
    (p.resetMode = .none → (State.resetWith p h).mode = .none ∧ (State.resetWith p h).extIe = false)) ∧
  ∀ s : State, s.mode = .none → s.extIe = false →
    (∀ m sel, exec (.pkt m sel) s = .next s) ∧
    exec .pollf s = .next s ∧
    (∀ l, exec (.syncin l) s = .next { s with syncIn := l }) ∧
    ∀ i t, exec i s = .next t → (∀ c, i ≠ .mode c) → t.mode = .none ∧ t.extIe = false

/-- The invariants hold right after reset, for every configuration that passes its registration. -/
def Obligations.InvariantsHoldAtReset : Prop :=
  ∀ (p : Params) (h : p.wf = true),
    ChainInv (State.resetWith p h) ∧ StagedOnlyInCombined (State.resetWith p h)

/-- 10_state.md R35: (I1) to (I9) are kept by every step, from every state that meets them. -/
def Obligations.StepKeepsTheChainInvariant : Prop :=
  ∀ s t : State, ChainInv s → step s = .next t → ChainInv t

/-- 43_sync_arbitrator.md R111: without a fault, `synced = 1` stays confined to mode `COMBINED`. -/
def Obligations.StepKeepsStagingInCombined : Prop :=
  ∀ s t : State, StagedOnlyInCombined s → step s = .next t → StagedOnlyInCombined t

/-- 20_memory.md R47: "For a well-formed table this cannot happen". -/
def Obligations.TableBoundsIsUnreachable : Prop :=
  ∀ s t : State, ChainInv s → s.fault ≠ some .tableBounds → step s = .next t →
    t.fault ≠ some .tableBounds

/-- 60_exceptions.md R126, 10_state.md R33: no operation clears a fault. That the machine's next step answers it is the model's
reading of "stops" (DEDUCED, log entry 7). -/
def Obligations.FaultIsStickyAndStopsTheMachine : Prop :=
  (∀ (i : Instr) (s t : State), s.fault ≠ none → exec i s = .next t → t.fault ≠ none) ∧
  ∀ (s : State) (f : Fault), s.fault = some f → step s = .fault f

/-- 20_memory.md R41, R46, R51, R52: the selected table and every parameter are never written, so every table read gives the
same entry after a step. -/
def Obligations.TableIsNeverWritten : Prop :=
  (∀ (i : Instr) (s t : State), exec i s = .next t → t.params = s.params) ∧
  ∀ s t : State, step s = .next t →
    t.params = s.params ∧
    (∀ k, t.table.startOf k = s.table.startOf k ∧ t.table.countOf k = s.table.countOf k) ∧
    ∀ j, t.table.sampleAt j = s.table.sampleAt j

/-- 20_memory.md R42: WF1 to WF4 in their own words. -/
def Obligations.WellFormedTableMeetsWF1ToWF4 : Prop :=
  ∀ T : Table, T.wf = true ↔
    T.samples.length ≤ 255 ∧
    ∀ t : TokenIndex, T.countOf t ≠ 0#8 →
      (T.startOf t).toNat + (T.countOf t).toNat ≤ T.samples.length ∧
      (T.countOf t).toNat % 2 = 1 ∧
      ∀ j : Nat, (T.startOf t).toNat ≤ j → j < (T.startOf t).toNat + (T.countOf t).toNat →
        ∃ v, T.samples[j]? = some v ∧ 1 ≤ v.toNat ∧ v.toNat ≤ 32767

/-! ### Encoding -/

/-- 30_encoding.md R60 to R62: no bit of an encoding is dropped. -/
def Obligations.DecodeOfEncodeGivesTheInstruction : Prop :=
  ∀ i : Instr, i.WellFormed → decode (encode i) = .ok i

/-- Each word has one meaning: a word that decodes is the encoding of what it decodes to, which is well-formed. -/
def Obligations.EncodeOfDecodeGivesTheWord : Prop :=
  ∀ (w : OpWord) (i : Instr), decode w = .ok i → i.WellFormed ∧ encode i = w

/-- 30_encoding.md R62, R63; the words of 95_test_vectors.md VE. -/
def Obligations.WordsOfTheOpcodeMap : Prop :=
  decode 0x010000#24 = .ok .tick ∧ decode 0x020000#24 = .ok .mstick ∧
  decode 0x030001#24 = .ok (.syncin true) ∧ decode 0x10AA01#24 = .ok (.pkt 0xAA#8 0x01#8) ∧
  decode 0x110003#24 = .ok (.mode 3#8) ∧ decode 0x310110#24 = .ok (.memwr 0x01#8 0x10#8) ∧
  decode 0x810000#24 = .ok .compb ∧ decode 0x110005#24 = .error .modeAboveFour ∧
  decode 0x330000#24 = .error .reservedOpcode

/-- 30_encoding.md R61, R63 (a), (b): exactly the reserved and the illegal words are refused. -/
def Obligations.DecodeRefusesReservedAndIllegalWords : Prop :=
  ∀ w : OpWord, (∃ e, decode w = .error e) ↔
    (opField w ∉ [0x01#8, 0x02#8, 0x03#8, 0x10#8, 0x11#8, 0x12#8, 0x20#8, 0x21#8, 0x30#8, 0x31#8, 0x32#8,
      0x80#8, 0x81#8]) ∨
    (opField w ∈ [0x01#8, 0x02#8, 0x12#8, 0x20#8, 0x21#8, 0x80#8, 0x81#8] ∧
      (aField w ≠ 0#8 ∨ bField w ≠ 0#8)) ∨
    (opField w = 0x03#8 ∧ (aField w ≠ 0#8 ∨ 1 < (bField w).toNat)) ∨
    (opField w = 0x11#8 ∧ (aField w ≠ 0#8 ∨ 4 < (bField w).toNat))

/-- A word that decodes matches its row of spec/opcode_table.json, and no word matches the rows of two operations. -/
def Obligations.OpcodeTableRowsDoNotOverlap : Prop :=
  (∀ (w : OpWord) (i : Instr), decode w = .ok i → w &&& i.rowMask = i.rowMatch) ∧
  ∀ (w : OpWord) (i j : Instr),
    w &&& i.rowMask = i.rowMatch → w &&& j.rowMask = j.rowMatch → i.opcode = j.opcode

/-! ### The step -/

/-- One step performs the next operation word: `TICK` only when no handler is due, any other word at once where the order is as
written, an event word always. -/
def Obligations.StepRunsTheDecodedWord : Prop :=
  ∀ (s : State) (w : OpWord) (rest : List OpWord) (i : Instr),
    s.fault = none → s.trace = w :: rest → decode w = .ok i →
    (s.dueEvent = none ∨ i = .compa ∨ i = .compb ∨ (i ≠ .tick ∧ s.schedule = .asWritten)) →
    step s = exec i { s with trace := rest }

/-- 40_timers.md R70, R74 (`TICK` waits for a due handler) and 30_encoding.md R67 (the eager schedule); that a due handler runs when
no word is left is the model's choice (log entry 5). -/
def Obligations.StepServesADueHandlerFirst : Prop :=
  ∀ (s : State) (e : Instr),
    s.fault = none → s.dueEvent = some e →
    (s.trace = [] ∨
      ∃ w rest, s.trace = w :: rest ∧
        (decode w = .ok .tick ∨
          (s.schedule = .eager ∧ decode w ≠ .ok .compa ∧ decode w ≠ .ok .compb))) →
    step s = exec e s ∧ (e = .compa ∨ e = .compb)

/-- 43_sync_arbitrator.md R110: a reserved or illegal word changes nothing; it only leaves the list of words. -/
def Obligations.ReservedAndIllegalWordsAreIgnored : Prop :=
  ∀ (s : State) (w : OpWord) (rest : List OpWord) (e : DecodeError),
    s.fault = none → s.trace = w :: rest → decode w = .error e →
    (s.dueEvent = none ∨ s.schedule = .asWritten) →
    step s = .next { s with trace := rest }

/-- With no word left and no handler due the block waits (the model's choice, log entry 11). A configuration that fails its
registration is refused and gets no state (20_memory.md R42, R53, R54), so that every state, and with it every operation, step and
script, has a well-formed table (held by the type of State: the model's choice, log entry 10). -/
def Obligations.IdleBlockWaitsAndIllFormedIsRefused : Prop :=
  (∀ s : State, s.fault = none → s.trace = [] → s.dueEvent = none →
    step s = .next s) ∧
  (∀ p : Params, p.wf = false → powerUp p = .refused .configurationNotWellFormed) ∧
  (∀ (p : Params) (h : p.wf = true), powerUp p = .next (State.resetWith p h)) ∧
  ∀ s : State, s.params.wf = true ∧ s.table.wf = true

/-- 93_implementation_defined.md, after its table: "every stimulus word has an outcome in every state". -/
def Obligations.EveryStimulusWordHasAnOutcome : Prop :=
  ∀ s : State, s.fault = none →
    (∀ w rest, s.trace = w :: rest → decode w ≠ .ok .compa ∧ decode w ≠ .ok .compb) →
    ∃ t, step s = .next t

/-- The word that the host places is the one that the next step performs (log entry 4). -/
def Obligations.PlacedWordRunsNext : Prop :=
  ∀ (s : State) (nbits w : Nat) (i : Instr),
    s.fault = none → decodeTableWord nbits w = some i →
    (s.dueEvent = none ∨ i ≠ .tick) →
    step (s.withFetchWord nbits w) = exec i { s with schedule := .asWritten }

/-! ### The timer and the clock -/

/-- 40_timers.md R70, every clause. That `TICK` performed while a handler is due answers a refusal is the model's reading of "cannot
be performed" (DEDUCED, log entry 9). -/
def Obligations.TickAdvancesTheTimer : Prop :=
  ∀ s : State,
    ((s.ifa = true ∧ s.iea = true ∨ s.ifb = true ∧ s.ieb = true) →
      exec .tick s = .refused .tickNotEnabled) ∧
    (¬(s.ifa = true ∧ s.iea = true) ∧ ¬(s.ifb = true ∧ s.ieb = true) → s.run = false →
      exec .tick s = .next s) ∧
    (¬(s.ifa = true ∧ s.iea = true) ∧ ¬(s.ifb = true ∧ s.ieb = true) → s.run = true →
      ∃ t, exec .tick s = .next t ∧
        t.cnt.toNat = (s.cnt.toNat + 1) % 2 ^ 16 ∧
        (t.ifa = true ↔ s.ifa = true ∨ (s.iea = true ∧ t.cnt = s.ocra)) ∧
        (t.ifb = true ↔ s.ifb = true ∨ (s.ieb = true ∧ t.cnt = s.ocrb)) ∧
        t = { s with cnt := t.cnt, ifa := t.ifa, ifb := t.ifb })

/-- 40_timers.md R75. -/
def Obligations.MstickAdvancesTheClock : Prop :=
  ∀ s : State, ∃ t, exec .mstick s = .next t ∧
    t.ms.toNat = (s.ms.toNat + 1) % 2 ^ 32 ∧ t = { s with ms := t.ms }

/-- 40_timers.md R71, the arming law of both channels: armed `d` ticks ahead, the flag becomes 1 at the `d`-th tick and not
before, the 65536-th for an offset of 0. -/
def Obligations.ArmingLaw : Prop :=
  ∀ (s : State) (d k : Nat), s.fault = none → s.run = true → s.ifa = false → s.ifb = false →
    1 ≤ d → d ≤ 65536 → k ≤ d →
    (s.iea = true → s.ieb = false → s.ocra = s.cnt + BitVec.ofNat 16 d →
      (((performed .tick)^[k] s).ifa = true ↔ k = d) ∧ ((performed .tick)^[k] s).ifb = false) ∧
    (s.ieb = true → s.iea = false → s.ocrb = s.cnt + BitVec.ofNat 16 d →
      (((performed .tick)^[k] s).ifb = true ↔ k = d) ∧ ((performed .tick)^[k] s).ifa = false)

/-- 40_timers.md R74 and 42_token_sequencer.md R92 (b): while a handler is due `TICK` alone is not performed (that it answers a
refusal is the model's reading, DEDUCED, log entry 9); every other stimulus answers a next state, all but `MODE` leaving the handler
due at the same count, and a legal `MODE` removes it. -/
def Obligations.DueHandlerSurvivesOtherStimuli : Prop :=
  (∀ s : State, s.dueEvent ≠ none → exec .tick s = .refused .tickNotEnabled) ∧
  (∀ (i : Instr) (s : State), i ≠ .tick → i ≠ .compa → i ≠ .compb → ∃ t, exec i s = .next t) ∧
  (∀ (i : Instr) (s t : State), s.run = true → exec i s = .next t →
    i ≠ .tick → i ≠ .compa → i ≠ .compb → (∀ c, i ≠ .mode c) →
    t.dueEvent = s.dueEvent ∧ t.cnt = s.cnt ∧ t.ocra = s.ocra ∧ t.ocrb = s.ocrb) ∧
  ∀ (c : Byte) (s t : State), c.toNat ≤ 4 → exec (.mode c) s = .next t → t.dueEvent = none

/-! ### The Pulse Cursor Engine and the Token Sequencer -/

/-- 41_pulse_cursor.md R80. -/
def Obligations.BeginTokenRule : Prop :=
  ∀ (t : TokenIndex) (d : Nat) (s : State),
    (s.table.countOf t = 0#8 → beginToken t d s = s) ∧
    (s.table.countOf t ≠ 0#8 →
      beginToken t d s =
        { s with
          currentToken := t
          cursor := s.table.startOf t
          endIndex := BitVec.ofNat 8 ((s.table.startOf t).toNat + (s.table.countOf t).toNat)
          cnt := if s.run then s.cnt else 0#16
          run := true
          ocra := BitVec.ofNat 16 ((if s.run then s.cnt.toNat else 0) + d)
          iea := true
          ieb := false
          statusFrame := true })

/-- 41_pulse_cursor.md R81. That `COMPA` performed where it is not enabled answers a refusal is the model's reading of "rejects the
trace" (DEDUCED, log entry 9; 30_encoding.md R63 (c)). -/
def Obligations.CompaRule : Prop :=
  ∀ s : State,
    (¬(s.ifa = true ∧ s.iea = true) → exec .compa s = .refused .compaNotEnabled) ∧
    (s.ifa = true → s.iea = true → s.table.samples.length ≤ s.cursor.toNat →
      exec .compa s =
        .next { s with ifa := false, irOut := true, fault := some .tableBounds }) ∧
    (∀ v, s.ifa = true → s.iea = true → s.table.samples[s.cursor.toNat]? = some v →
      exec .compa s =
        .next { s with
          ifa := false
          irOut := true
          cursor := s.cursor + 1#8
          ocrb := BitVec.ofNat 16 (s.cnt.toNat + 2 * v.toNat)
          iea := false
          ieb := true })

/-- 41_pulse_cursor.md R82, with the end of the token written out from 42_token_sequencer.md R90, R91 and R80: an opening slot's
present closing slot follows after the gap, otherwise the frame ends. That `COMPB` performed where it is not enabled answers a
refusal is the model's reading of "rejects the trace" (DEDUCED, log entry 9; 30_encoding.md R63 (c)). -/
def Obligations.CompbRule : Prop :=
  ∀ s : State,
    (¬(s.ifb = true ∧ s.ieb = true) → exec .compb s = .refused .compbNotEnabled) ∧
    (s.ifb = true → s.ieb = true → s.cursor ≠ s.endIndex →
      s.table.samples.length ≤ s.cursor.toNat →
      exec .compb s =
        .next { s with ifb := false, irOut := false, fault := some .tableBounds }) ∧
    (∀ v, s.ifb = true → s.ieb = true → s.cursor ≠ s.endIndex →
      s.table.samples[s.cursor.toNat]? = some v →
      exec .compb s =
        .next { s with
          ifb := false
          irOut := false
          cursor := s.cursor + 1#8
          ocra := BitVec.ofNat 16 (s.cnt.toNat + 2 * v.toNat)
          iea := true
          ieb := false }) ∧
    (s.ifb = true → s.ieb = true → s.cursor = s.endIndex →
      s.currentToken.toNat % 2 = 0 → s.table.countOf (s.currentToken + 1#2) ≠ 0#8 →
      exec .compb s =
        .next { s with
          ifb := false
          irOut := false
          currentToken := s.currentToken + 1#2
          cursor := s.table.startOf (s.currentToken + 1#2)
          endIndex := s.table.startOf (s.currentToken + 1#2) + s.table.countOf (s.currentToken + 1#2)
          cnt := if s.run then s.cnt else 0#16
          run := true
          ocra := BitVec.ofNat 16 ((if s.run then s.cnt.toNat else 0) + s.params.gapTicks)
          iea := true
          ieb := false
          statusFrame := true }) ∧
    (s.ifb = true → s.ieb = true → s.cursor = s.endIndex →
      (s.currentToken.toNat % 2 = 1 ∨ s.table.countOf (s.currentToken + 1#2) = 0#8) →
      exec .compb s =
        .next { s with
          ifb := false, irOut := false, run := false, iea := false, ieb := false, statusFrame := false })

/-- 41_pulse_cursor.md R86: while a chain is active, only the two handlers and `MODE` write the Pulse Cursor. -/
def Obligations.ChainOwnsThePulseCursor : Prop :=
  ∀ (i : Instr) (s t : State), s.run = true → exec i s = .next t →
    i ≠ .compa → i ≠ .compb → (∀ c, i ≠ .mode c) →
    t.currentToken = s.currentToken ∧ t.cursor = s.cursor ∧ t.endIndex = s.endIndex

/-- 41_pulse_cursor.md R85: the transition table of the chain, row by row, with what each row schedules next: an armed channel and its
compare value relative to the count, or a stopped timer (`Idle`). -/
def Obligations.PhaseTransitionTable : Prop :=
  ∀ s : State, ChainInv s →
    (∀ i, s.phase = .idle → AuthorizesFrame i s →
      ∃ t, exec i s = .next t ∧
        if s.table.countOf t.currentEye.openingSlot = 0#8 then t.phase = .idle
        else t.phase = .awaitingPan ∧ t.iea = true ∧ t.ocra = t.cnt + BitVec.ofNat 16 s.params.panTicks) ∧
    (∀ i, s.phase ≠ .idle → AuthorizesFrame i s →
      ∃ t, exec i s = .next t ∧ t.fault = some .frameOverlap) ∧
    (s.compaDue = true → (s.phase = .awaitingPan ∨ s.phase = .transmittingSpace) ∧
      ∃ t v, exec .compa s = .next t ∧ t.phase = .transmittingMark ∧ t.ieb = true ∧
        s.table.sampleAt s.cursor = some v ∧ t.ocrb = s.cnt + 2#16 * v) ∧
    (s.compbDue = true → s.phase = .transmittingMark ∧
      (s.cursor ≠ s.endIndex →
        ∃ t v, exec .compb s = .next t ∧ t.phase = .transmittingSpace ∧ t.iea = true ∧
          s.table.sampleAt s.cursor = some v ∧ t.ocra = s.cnt + 2#16 * v) ∧
      (s.cursor = s.endIndex →
        ∃ t, exec .compb s = .next t ∧
          if s.currentToken.toNat % 2 = 0 ∧ s.table.countOf (s.currentToken + 1#2) ≠ 0#8 then
            t.phase = .awaitingPan ∧ t.iea = true ∧ t.ocra = s.cnt + BitVec.ofNat 16 s.params.gapTicks
          else t.phase = .idle)) ∧
    ∀ c : Byte, c.toNat ≤ 4 → ∃ t, exec (.mode c) s = .next t ∧ t.phase = .idle ∧ t.ifa = false ∧ t.ifb = false

/-- 41_pulse_cursor.md R84, the waveform law, for ticks with the eager schedule and no other stimulus: the line is high exactly
during the marks, and after all of the token's samples the end of the token is decided with the line low. -/
def Obligations.WaveformLaw : Prop :=
  ∀ (s : State) (t : TokenIndex) (d : Nat),
    s.fault = none → s.ifa = false → s.ifb = false → s.irOut = false →
    1 ≤ d → d ≤ 65535 → s.table.countOf t ≠ 0#8 →
    (∀ j, j ≤ d + slotTicks s.table t →
      ((ticks j (beginToken t d s)).irOut = true ↔ MarkAt d (slotSamples s.table t) j)) ∧
    ∃ u : State,
      ticks (d + slotTicks s.table t) (beginToken t d s) = endOfToken u ∧
      u.irOut = false ∧ u.currentToken = t ∧ u.cursor = u.endIndex ∧
      u.cursor.toNat = (s.table.startOf t).toNat + (s.table.countOf t).toNat

/-- 42_token_sequencer.md R94, the frame law, for ticks with the eager schedule and no other stimulus: slot `2e` after the pan
delay, then slot `2e + 1`, if present, after the gap, then idle for good. -/
def Obligations.FrameLaw : Prop :=
  ∀ s : State,
    ChainInv s → s.fault = none → s.run = false →
    let A := s.nextEye.openingSlot
    let B := A + 1#2
    let T := s.table
    let endA := s.params.panTicks + slotTicks T A
    let lastTick := if T.countOf B = 0#8 then endA else endA + s.params.gapTicks + slotTicks T B
    ∀ j : Nat,
      (T.countOf A = 0#8 →
        (ticks j (startFrame s)).irOut = false ∧ (ticks j (startFrame s)).run = false) ∧
      (T.countOf A ≠ 0#8 →
        ((ticks j (startFrame s)).irOut = true ↔
          MarkAt s.params.panTicks (slotSamples T A) j ∨
          (T.countOf B ≠ 0#8 ∧ endA ≤ j ∧ MarkAt s.params.gapTicks (slotSamples T B) (j - endA))) ∧
        ((ticks j (startFrame s)).run = true ↔ j < lastTick) ∧
        ((ticks j (startFrame s)).statusFrame = true ↔ j < lastTick) ∧
        (ticks j (startFrame s)).fault = none)

/-! ### The Sync Arbitrator -/

/-- 43_sync_arbitrator.md R100, R101: staging an eye and starting a frame, the staged eye being that of the next frame whatever the
present one is. -/
def Obligations.StageAndStartFrame : Prop :=
  ∀ (e : Eye) (s : State),
    setEye e s =
      { s with nextEye := if s.swapEyes = true then e.other else e, synced := true } ∧
    (s.run = true → startFrame s = { s with fault := some .frameOverlap }) ∧
    (s.run = false → s.table.countOf s.nextEye.openingSlot = 0#8 →
      startFrame s =
        { s with active := true, currentEye := s.nextEye, lastFrameTime := s.ms, synced := false }) ∧
    (s.run = false → s.table.countOf s.nextEye.openingSlot ≠ 0#8 →
      startFrame s =
        { s with
          active := true
          currentEye := s.nextEye
          lastFrameTime := s.ms
          synced := false
          currentToken := s.nextEye.openingSlot
          cursor := s.table.startOf s.nextEye.openingSlot
          endIndex := s.table.startOf s.nextEye.openingSlot + s.table.countOf s.nextEye.openingSlot
          cnt := 0#16
          run := true
          ocra := BitVec.ofNat 16 s.params.panTicks
          iea := true
          ieb := false
          statusFrame := true })

/-- 43_sync_arbitrator.md R102, R103: a level that does not change or a disabled edge only records the level; an edge stages,
starts, or both, by the mode. -/
def Obligations.SyncinRule : Prop :=
  ∀ (l : Bool) (s : State),
    let r := { s with syncIn := l }
    let staged := { r with nextEye := (s.params.levelEye l).xorSwap s.swapEyes, synced := true }
    ((l = s.syncIn ∨ s.extIe = false ∨ s.mode.requiresExternal = false) →
      exec (.syncin l) s = .next r) ∧
    (l ≠ s.syncIn → s.extIe = true → s.mode = .external →
      exec (.syncin l) s = .next (startFrame staged)) ∧
    (l ≠ s.syncIn → s.extIe = true → s.mode = .combined → s.synced = true →
      exec (.syncin l) s = .next (startFrame r)) ∧
    (l ≠ s.syncIn → s.extIe = true → s.mode = .combined → s.synced = false →
      exec (.syncin l) s =
        .next (if s.params.combinedEdgeStartsUnstaged = true then startFrame staged else staged))

/-- 43_sync_arbitrator.md R104. -/
def Obligations.PktRule : Prop :=
  ∀ (m sel : Byte) (s : State),
    let staged := { s with nextEye := (s.params.selectorEye sel).xorSwap s.swapEyes, synced := true }
    ((m ≠ s.params.hostMarker ∨ (s.mode ≠ .driver ∧ s.mode ≠ .combined)) →
      exec (.pkt m sel) s = .next s) ∧
    (m = s.params.hostMarker → s.mode = .driver → exec (.pkt m sel) s = .next (startFrame staged)) ∧
    (m = s.params.hostMarker → s.mode = .combined → exec (.pkt m sel) s = .next staged)

/-- 43_sync_arbitrator.md R105, with `e` the true elapsed milliseconds, below `2^32` (70_reset_and_hazards.md R154). -/
def Obligations.PollfRule : Prop :=
  ∀ (s : State) (e : Nat), e < 2 ^ 32 → s.ms = s.lastFrameTime + BitVec.ofNat 32 e →
    ((s.mode ≠ .freerun ∨ e < s.params.freerunPeriodMs) → exec .pollf s = .next s) ∧
    (s.mode = .freerun → s.params.freerunPeriodMs ≤ e →
      exec .pollf s = .next (startFrame { s with nextEye := s.currentEye.other }))

/-- 43_sync_arbitrator.md R106, with `e` the true elapsed milliseconds, below `2^32` (70_reset_and_hazards.md R154), and its
corner (a): a second poll changes nothing. -/
def Obligations.PolllRule : Prop :=
  ∀ (s : State) (e : Nat), e < 2 ^ 32 → s.ms = s.lastFrameTime + BitVec.ofNat 32 e →
    ((s.active = false ∨ e < s.params.timeoutMs) → exec .polll s = .next s) ∧
    (s.active = true → s.params.timeoutMs ≤ e →
      exec .polll s = .next { s with active := false } ∧
      exec .polll { s with active := false } = .next { s with active := false })

/-- 43_sync_arbitrator.md R107 with 42_token_sequencer.md R92 written out: every legal code cancels the chain and selects the mode, a
code above 4 is ignored. -/
def Obligations.ModeRule : Prop :=
  ∀ (c : Byte) (s : State),
    (4 < c.toNat → exec (.mode c) s = .next s) ∧
    ∀ m : Mode, c = m.code →
      exec (.mode c) s =
        .next { s with
          run := false
          iea := false
          ieb := false
          ifa := false
          ifb := false
          cursor := 0#8
          endIndex := 0#8
          irOut := false
          statusFrame := false
          mode := m
          synced := false
          active := false
          extIe := decide (m = .external ∨ m = .combined) }

/-- 43_sync_arbitrator.md R108: the toggle inverts `swap_eyes` and nothing else, so that two toggles change nothing. -/
def Obligations.SwapRule : Prop :=
  ∀ s : State, ∃ t, exec .swap s = .next t ∧ t.swapEyes ≠ s.swapEyes ∧
    t = { s with swapEyes := t.swapEyes } ∧ exec .swap t = .next s

/-- 43_sync_arbitrator.md R109: the three memory-block requests read and write no state element. -/
def Obligations.MemoryRequestsPassThrough : Prop :=
  ∀ (a b : Byte) (s : State),
    exec (.memrd a b) s = .next s ∧ exec (.memwr a b) s = .next s ∧ exec (.memclr a b) s = .next s

/-- 43_sync_arbitrator.md R101, R103 to R105: what every authorized frame start leaves, whichever trigger caused it. -/
def Obligations.AuthorizedTriggerStartsAFrame : Prop :=
  ∀ (i : Instr) (s : State), AuthorizesFrame i s → s.run = false →
    ∃ t, exec i s = .next t ∧ t.fault = s.fault ∧
      t.active = true ∧ t.synced = false ∧ t.lastFrameTime = s.ms ∧ t.currentEye = t.nextEye ∧
      (s.table.countOf t.currentEye.openingSlot = 0#8 →
        t.run = false ∧ t.statusFrame = s.statusFrame ∧ t.irOut = s.irOut) ∧
      (s.table.countOf t.currentEye.openingSlot ≠ 0#8 →
        t.run = true ∧ t.currentToken = t.currentEye.openingSlot ∧ t.cnt = 0#16 ∧
        t.ocra = BitVec.ofNat 16 s.params.panTicks ∧ t.iea = true ∧ t.ieb = false ∧ t.statusFrame = true)

/-- 60_exceptions.md R126 F1, 70_reset_and_hazards.md R150: `FrameOverlap` is raised exactly by a trigger that authorizes a frame
start while a chain is active, and by nothing else. -/
def Obligations.FrameOverlapExactlyOnOverlap : Prop :=
  ∀ (i : Instr) (s t : State), s.fault ≠ some .frameOverlap → exec i s = .next t →
    (t.fault = some .frameOverlap ↔ s.run = true ∧ AuthorizesFrame i s)

/-- 43_sync_arbitrator.md R112: in each mode at most one kind of trigger authorizes a frame start, and nothing else marks the
device active, takes an eye or restarts the liveness window. -/
def Obligations.OneTriggerKindPerMode : Prop :=
  ∀ (i : Instr) (s t : State), exec i s = .next t →
    ((s.active = false ∧ t.active = true) ∨ t.currentEye ≠ s.currentEye ∨
      t.lastFrameTime ≠ s.lastFrameTime) →
    AuthorizesFrame i s ∧
    ((∃ m sel, i = .pkt m sel) ↔ s.mode = .driver) ∧
    ((∃ l, i = .syncin l) ↔ s.mode = .external ∨ s.mode = .combined) ∧
    (i = .pollf ↔ s.mode = .freerun)

/-- 60_exceptions.md R127: each row of the table of silently ignored conditions. -/
def Obligations.IgnoredConditionsChangeNothing : Prop :=
  (∀ (m sel : Byte) (s : State), s.mode = .none ∨ s.mode = .external ∨ s.mode = .freerun →
    exec (.pkt m sel) s = .next s) ∧
  (∀ (m sel : Byte) (s : State), m ≠ s.params.hostMarker → exec (.pkt m sel) s = .next s) ∧
  (∀ (l : Bool) (s : State), s.extIe = s.mode.requiresExternal →
    s.mode = .none ∨ s.mode = .driver ∨ s.mode = .freerun →
    exec (.syncin l) s = .next { s with syncIn := l }) ∧
  (∀ s : State, s.mode ≠ .freerun ∨ s.elapsedMs < s.params.freerunPeriodMs →
    exec .pollf s = .next s) ∧
  (∀ s : State, s.active = false ∨ s.elapsedMs < s.params.timeoutMs → exec .polll s = .next s) ∧
  (∀ (t : TokenIndex) (d : Nat) (s : State), s.table.countOf t = 0#8 → beginToken t d s = s) ∧
  (∀ (c : Byte) (s : State), 4 < c.toNat → exec (.mode c) s = .next s) ∧
  ∀ (s : State) (w : OpWord) (rest : List OpWord) (e : DecodeError),
    s.fault = none → s.trace = w :: rest → decode w = .error e →
    s.dueEvent = none → step s = .next { s with trace := rest }

/-- S4 of 95_test_vectors.md, from 43_sync_arbitrator.md R100 and R101. -/
def Obligations.StagedEyeIsTheNextFramesEye : Prop :=
  ∀ (e : Eye) (s : State), s.run = false →
    (startFrame (setEye e s)).currentEye = (if s.swapEyes = true then e.other else e) ∧
    (startFrame (setEye e s)).synced = false

/-- 43_sync_arbitrator.md R105 (b): two free-run frames with an idle engine between them alternate the eye. -/
def Obligations.FreerunAlternatesTheEye : Prop :=
  ∀ s t u v : State, s.mode = .freerun →
    s.params.freerunPeriodMs ≤ s.elapsedMs → s.run = false → exec .pollf s = .next t →
    u.mode = t.mode → u.params = t.params → u.currentEye = t.currentEye → u.run = false →
    u.params.freerunPeriodMs ≤ u.elapsedMs → exec .pollf u = .next v →
    t.currentEye = s.currentEye.other ∧ v.currentEye = s.currentEye ∧
    v.lastFrameTime = u.ms ∧ v.active = true

/-- 43_sync_arbitrator.md R103 corner (c), 70_reset_and_hazards.md R160: without host packets, of two edges in `COMBINED` the first
stages and the second starts a frame with the eye of the first. -/
def Obligations.CombinedEdgesAlternatelyStageAndStart : Prop :=
  ∀ s : State, s.mode = .combined → s.extIe = true → s.synced = false → s.run = false →
    s.params.combinedEdgeStartsUnstaged = false →
    ∃ t u, exec (.syncin (!s.syncIn)) s = .next t ∧ exec (.syncin s.syncIn) t = .next u ∧
      t.active = s.active ∧ t.run = false ∧ t.currentEye = s.currentEye ∧ t.synced = true ∧
      u.active = true ∧ u.synced = false ∧ u.fault = s.fault ∧ u.lastFrameTime = s.ms ∧
      u.currentEye = (s.params.levelEye (!s.syncIn)).xorSwap s.swapEyes

/-- 60_exceptions.md R130, its last sentence: at the tick of the frame's last falling edge, an edge in `EXTERNAL` before `COMPB`
overlaps, after it starts a clean new frame. -/
def Obligations.OrderOfEdgeAndLastHandlerMatters : Prop :=
  ∀ (l : Bool) (s : State), ChainInv s → s.fault = none → s.compbDue = true → s.cursor = s.endIndex →
    (s.currentToken.toNat % 2 = 1 ∨ s.table.countOf (s.currentToken + 1#2) = 0#8) →
    s.mode = .external → l ≠ s.syncIn →
    (∃ t, exec (.syncin l) s = .next t ∧ t.fault = some .frameOverlap) ∧
    ∃ t u, exec .compb s = .next t ∧ exec (.syncin l) t = .next u ∧ u.fault = none ∧ u.active = true ∧
      u.currentEye = (s.params.levelEye l).xorSwap s.swapEyes

/-- 43_sync_arbitrator.md R108: the swap has no effect in `FREERUN`: two states that differ in `swap_eyes` alone go the same way. -/
def Obligations.SwapDoesNotEnterFreerun : Prop :=
  ∀ (i : Instr) (s t : State), s.mode = .freerun → exec i s = .next t →
    exec i { s with swapEyes := !s.swapEyes } = .next { t with swapEyes := !t.swapEyes }

/-! ### Frames over all operations -/

/-- 10_state.md R11 to R16, R20, R27 to R29: the only writers of the Frame/Eye State, the mode, the edge enable, the line level and
the clock. -/
def Obligations.OnlyWritersOfTheArbiterElements : Prop :=
  ∀ (i : Instr) (s t : State), exec i s = .next t →
    (t.currentEye ≠ s.currentEye → AuthorizesFrame i s) ∧
    (t.lastFrameTime ≠ s.lastFrameTime → AuthorizesFrame i s) ∧
    (t.nextEye ≠ s.nextEye → (∃ l, i = .syncin l) ∨ (∃ m sel, i = .pkt m sel) ∨ i = .pollf) ∧
    (t.swapEyes ≠ s.swapEyes → i = .swap) ∧
    (s.synced = false → t.synced = true → (∃ l, i = .syncin l) ∨ (∃ m sel, i = .pkt m sel)) ∧
    (s.synced = true → t.synced = false → AuthorizesFrame i s ∨ ∃ c, i = .mode c) ∧
    (s.active = false → t.active = true → AuthorizesFrame i s) ∧
    (s.active = true → t.active = false → i = .polll ∨ ∃ c, i = .mode c) ∧
    (t.mode ≠ s.mode → ∃ c, i = .mode c) ∧
    (t.extIe ≠ s.extIe → ∃ c, i = .mode c) ∧
    (t.syncIn ≠ s.syncIn → ∃ l, i = .syncin l) ∧
    (t.ms ≠ s.ms → i = .mstick)

/-- 10_state.md R17 to R19, R21 to R26, R30, R31: the only writers of the Pulse Cursor, the timer and the two output registers. -/
def Obligations.OnlyWritersOfTheEngineElements : Prop :=
  ∀ (i : Instr) (s t : State), exec i s = .next t →
    (t.currentToken ≠ s.currentToken → i = .compb ∨ AuthorizesFrame i s) ∧
    (t.cursor ≠ s.cursor → i = .compa ∨ i = .compb ∨ (∃ c, i = .mode c) ∨ AuthorizesFrame i s) ∧
    (t.endIndex ≠ s.endIndex → i = .compb ∨ (∃ c, i = .mode c) ∨ AuthorizesFrame i s) ∧
    (t.cnt ≠ s.cnt → i = .tick ∨ (s.run = false ∧ (i = .compb ∨ AuthorizesFrame i s))) ∧
    (t.ocra ≠ s.ocra → i = .compb ∨ AuthorizesFrame i s) ∧
    (t.ocrb ≠ s.ocrb → i = .compa) ∧
    (s.run = false → t.run = true → i = .compb ∨ AuthorizesFrame i s) ∧
    (s.run = true → t.run = false → i = .compb ∨ ∃ c, i = .mode c) ∧
    (t.iea ≠ s.iea → i = .compa ∨ i = .compb ∨ (∃ c, i = .mode c) ∨ AuthorizesFrame i s) ∧
    (s.ieb = false → t.ieb = true → i = .compa) ∧
    (s.ieb = true → t.ieb = false → i = .compb ∨ (∃ c, i = .mode c) ∨ AuthorizesFrame i s) ∧
    (s.ifa = false → t.ifa = true → i = .tick) ∧
    (s.ifa = true → t.ifa = false → i = .compa ∨ ∃ c, i = .mode c) ∧
    (s.ifb = false → t.ifb = true → i = .tick) ∧
    (s.ifb = true → t.ifb = false → i = .compb ∨ ∃ c, i = .mode c) ∧
    (s.irOut = false → t.irOut = true → i = .compa) ∧
    (s.irOut = true → t.irOut = false → i = .compb ∨ ∃ c, i = .mode c) ∧
    (t.statusFrame ≠ s.statusFrame → i = .compb ∨ (∃ c, i = .mode c) ∨ AuthorizesFrame i s)

/-- 60_exceptions.md R126: the only operations that raise a fault; and no operation touches the model's own fields. -/
def Obligations.OnlyRaisersOfAFault : Prop :=
  ∀ (i : Instr) (s t : State), exec i s = .next t →
    (t.fault ≠ s.fault → i = .compa ∨ i = .compb ∨ AuthorizesFrame i s) ∧
    t.trace = s.trace ∧ t.schedule = s.schedule ∧ t.params = s.params

/-- 43_sync_arbitrator.md R113, 60_exceptions.md R135, 10_state.md R31, R32, R34: what the three outputs show. -/
def Obligations.OutputsShowThePhase : Prop :=
  ∀ s : State, ChainInv s →
    (s.outputs.statusFrame = true ↔ s.phase ≠ .idle) ∧
    (s.outputs.irOut = true ↔ s.phase = .transmittingMark) ∧
    s.outputs.statusSync = s.active

/-! ### Scripts -/

/-- 30_encoding.md R67: after `SERVICE` no handler is enabled, unless a fault stopped the machine. -/
def Obligations.ServiceLeavesNoHandlerDue : Prop :=
  ∀ s : State, (service s).fault = none → (service s).dueEvent = none

/-- 30_encoding.md R67: under the eager schedule, stepping through `n` words `TICK` is `TICKS n`. -/
def Obligations.EagerStepsAreTicks : Prop :=
  ∀ (s : State) (n : Nat), ChainInv s → s.fault = none → s.schedule = .eager →
    s.trace = List.replicate n (encode .tick) →
    ∃ k, Host.Core.run Sys2Proof.core k s = .next { ticks n s with trace := [] }
end

