-- ==== Sys2Proof/Laws/Encoding.lean ====
section
/-! SUPPORT. The fields of a word built from its bytes, a word built from its fields, and everything each decoding helper can
accept. -/

namespace Sys2Proof

@[simp] theorem opField_opWord (op a b : Byte) : opField (opWord op a b) = op := by
  unfold opField opWord; ext i hi; simp; grind

@[simp] theorem aField_opWord (op a b : Byte) : aField (opWord op a b) = a := by
  unfold aField opWord; ext i hi; simp; grind

@[simp] theorem bField_opWord (op a b : Byte) : bField (opWord op a b) = b := by
  unfold bField opWord; ext i hi; simp; grind

theorem opWord_fields (w : OpWord) : opWord (opField w) (aField w) (bField w) = w := by
  unfold opWord opField aField bField; ext i hi; simp; grind

theorem decodePlain_ok {i j : Instr} {a b : Byte} (h : decodePlain j a b = .ok i) :
    i = j ∧ a = 0#8 ∧ b = 0#8 := by
  unfold decodePlain at h
  split at h
  · next hz => cases h; exact ⟨rfl, hz⟩
  · cases h

theorem decodeSyncin_ok {i : Instr} {a b : Byte} (h : decodeSyncin a b = .ok i) :
    a = 0#8 ∧ ∃ l : Bool, i = .syncin l ∧ b = if l then 1#8 else 0#8 := by
  unfold decodeSyncin at h
  split at h
  · cases h
  · next ha =>
    split at h
    · next hb =>
      cases h
      exact ⟨by simpa using ha, _, rfl, by revert hb; revert b; decide⟩
    · cases h

theorem decodeMode_ok {i : Instr} {a b : Byte} (h : decodeMode a b = .ok i) :
    a = 0#8 ∧ b ≤ 4#8 ∧ i = .mode b := by
  unfold decodeMode at h
  split at h
  · cases h
  · next ha =>
    split at h
    · next hb => cases h; exact ⟨by simpa using ha, hb, rfl⟩
    · cases h

/-- The mask of the two-operand rows keeps the operation selector alone. -/
theorem opWord_and_selectorMask (op a b : Byte) : opWord op a b &&& 0xFF0000#24 = opWord op 0#8 0#8 := by
  have hm : 0xFF0000#24 = opWord 0xFF#8 0#8 0#8 := by decide
  have hones : ∀ j, j < 8 → (0xFF#8).getLsbD j = true := by decide
  rw [hm]
  unfold opWord
  apply BitVec.eq_of_getLsbD_eq
  intro k hk
  simp only [BitVec.getLsbD_and, BitVec.getLsbD_append]
  by_cases h1 : k < 8
  · simp [h1]
  · by_cases h2 : k - 8 < 8
    · simp [h1, h2]
    · simp [h1, h2, hones (k - 8 - 8) (by omega)]

/-- The mask of every row covers the operation selector. -/
theorem rowMask_covers_selector (i : Instr) {k : Nat} (hk : k < 8) : i.rowMask.getLsbD (16 + k) = true := by
  cases i <;> simp [Instr.rowMask] <;> (revert k; decide)

/-- A word that matches a row has the row's operation selector. -/
theorem opField_of_rowMatch {w : OpWord} {i : Instr} (h : w &&& i.rowMask = i.rowMatch) : opField w = i.opcode := by
  rw [← show opField i.rowMatch = i.opcode from opField_opWord _ _ _, ← h]
  unfold opField
  ext k hk
  simp [rowMask_covers_selector i hk]

end Sys2Proof
end

