-- ==== Sys2Proof/Laws/State.lean ====
section
/-! SUPPORT. One lemma per field per update of the state, for the updates that write the same fields in every state. -/

namespace Sys2Proof.Machine

/-- The table a state reads is the one its parameters select, so every update that keeps the parameters keeps it. -/
@[simp] theorem table_eq (s : State) : s.table = s.params.table := rfl

@[simp] theorem raise_currentEye (f : Fault) (s : State) : (raise f s).currentEye = s.currentEye := rfl
@[simp] theorem raise_nextEye (f : Fault) (s : State) : (raise f s).nextEye = s.nextEye := rfl
@[simp] theorem raise_swapEyes (f : Fault) (s : State) : (raise f s).swapEyes = s.swapEyes := rfl
@[simp] theorem raise_synced (f : Fault) (s : State) : (raise f s).synced = s.synced := rfl
@[simp] theorem raise_active (f : Fault) (s : State) : (raise f s).active = s.active := rfl
@[simp] theorem raise_lastFrameTime (f : Fault) (s : State) : (raise f s).lastFrameTime = s.lastFrameTime := rfl
@[simp] theorem raise_currentToken (f : Fault) (s : State) : (raise f s).currentToken = s.currentToken := rfl
@[simp] theorem raise_cursor (f : Fault) (s : State) : (raise f s).cursor = s.cursor := rfl
@[simp] theorem raise_endIndex (f : Fault) (s : State) : (raise f s).endIndex = s.endIndex := rfl
@[simp] theorem raise_mode (f : Fault) (s : State) : (raise f s).mode = s.mode := rfl
@[simp] theorem raise_cnt (f : Fault) (s : State) : (raise f s).cnt = s.cnt := rfl
@[simp] theorem raise_ocra (f : Fault) (s : State) : (raise f s).ocra = s.ocra := rfl
@[simp] theorem raise_ocrb (f : Fault) (s : State) : (raise f s).ocrb = s.ocrb := rfl
@[simp] theorem raise_run (f : Fault) (s : State) : (raise f s).run = s.run := rfl
@[simp] theorem raise_iea (f : Fault) (s : State) : (raise f s).iea = s.iea := rfl
@[simp] theorem raise_ieb (f : Fault) (s : State) : (raise f s).ieb = s.ieb := rfl
@[simp] theorem raise_ifa (f : Fault) (s : State) : (raise f s).ifa = s.ifa := rfl
@[simp] theorem raise_ifb (f : Fault) (s : State) : (raise f s).ifb = s.ifb := rfl
@[simp] theorem raise_extIe (f : Fault) (s : State) : (raise f s).extIe = s.extIe := rfl
@[simp] theorem raise_syncIn (f : Fault) (s : State) : (raise f s).syncIn = s.syncIn := rfl
@[simp] theorem raise_ms (f : Fault) (s : State) : (raise f s).ms = s.ms := rfl
@[simp] theorem raise_irOut (f : Fault) (s : State) : (raise f s).irOut = s.irOut := rfl
@[simp] theorem raise_statusFrame (f : Fault) (s : State) : (raise f s).statusFrame = s.statusFrame := rfl
@[simp] theorem raise_fault (f : Fault) (s : State) : (raise f s).fault = some f := rfl
@[simp] theorem raise_params (f : Fault) (s : State) : (raise f s).params = s.params := rfl
@[simp] theorem raise_trace (f : Fault) (s : State) : (raise f s).trace = s.trace := rfl
@[simp] theorem raise_schedule (f : Fault) (s : State) : (raise f s).schedule = s.schedule := rfl

@[simp] theorem setEye_currentEye (e : Eye) (s : State) : (setEye e s).currentEye = s.currentEye := rfl
@[simp] theorem setEye_nextEye (e : Eye) (s : State) : (setEye e s).nextEye = e.xorSwap s.swapEyes := rfl
@[simp] theorem setEye_swapEyes (e : Eye) (s : State) : (setEye e s).swapEyes = s.swapEyes := rfl
@[simp] theorem setEye_synced (e : Eye) (s : State) : (setEye e s).synced = true := rfl
@[simp] theorem setEye_active (e : Eye) (s : State) : (setEye e s).active = s.active := rfl
@[simp] theorem setEye_lastFrameTime (e : Eye) (s : State) : (setEye e s).lastFrameTime = s.lastFrameTime := rfl
@[simp] theorem setEye_currentToken (e : Eye) (s : State) : (setEye e s).currentToken = s.currentToken := rfl
@[simp] theorem setEye_cursor (e : Eye) (s : State) : (setEye e s).cursor = s.cursor := rfl
@[simp] theorem setEye_endIndex (e : Eye) (s : State) : (setEye e s).endIndex = s.endIndex := rfl
@[simp] theorem setEye_mode (e : Eye) (s : State) : (setEye e s).mode = s.mode := rfl
@[simp] theorem setEye_cnt (e : Eye) (s : State) : (setEye e s).cnt = s.cnt := rfl
@[simp] theorem setEye_ocra (e : Eye) (s : State) : (setEye e s).ocra = s.ocra := rfl
@[simp] theorem setEye_ocrb (e : Eye) (s : State) : (setEye e s).ocrb = s.ocrb := rfl
@[simp] theorem setEye_run (e : Eye) (s : State) : (setEye e s).run = s.run := rfl
@[simp] theorem setEye_iea (e : Eye) (s : State) : (setEye e s).iea = s.iea := rfl
@[simp] theorem setEye_ieb (e : Eye) (s : State) : (setEye e s).ieb = s.ieb := rfl
@[simp] theorem setEye_ifa (e : Eye) (s : State) : (setEye e s).ifa = s.ifa := rfl
@[simp] theorem setEye_ifb (e : Eye) (s : State) : (setEye e s).ifb = s.ifb := rfl
@[simp] theorem setEye_extIe (e : Eye) (s : State) : (setEye e s).extIe = s.extIe := rfl
@[simp] theorem setEye_syncIn (e : Eye) (s : State) : (setEye e s).syncIn = s.syncIn := rfl
@[simp] theorem setEye_ms (e : Eye) (s : State) : (setEye e s).ms = s.ms := rfl
@[simp] theorem setEye_irOut (e : Eye) (s : State) : (setEye e s).irOut = s.irOut := rfl
@[simp] theorem setEye_statusFrame (e : Eye) (s : State) : (setEye e s).statusFrame = s.statusFrame := rfl
@[simp] theorem setEye_fault (e : Eye) (s : State) : (setEye e s).fault = s.fault := rfl
@[simp] theorem setEye_params (e : Eye) (s : State) : (setEye e s).params = s.params := rfl
@[simp] theorem setEye_trace (e : Eye) (s : State) : (setEye e s).trace = s.trace := rfl
@[simp] theorem setEye_schedule (e : Eye) (s : State) : (setEye e s).schedule = s.schedule := rfl

@[simp] theorem endFrame_currentEye (s : State) : (endFrame s).currentEye = s.currentEye := rfl
@[simp] theorem endFrame_nextEye (s : State) : (endFrame s).nextEye = s.nextEye := rfl
@[simp] theorem endFrame_swapEyes (s : State) : (endFrame s).swapEyes = s.swapEyes := rfl
@[simp] theorem endFrame_synced (s : State) : (endFrame s).synced = s.synced := rfl
@[simp] theorem endFrame_active (s : State) : (endFrame s).active = s.active := rfl
@[simp] theorem endFrame_lastFrameTime (s : State) : (endFrame s).lastFrameTime = s.lastFrameTime := rfl
@[simp] theorem endFrame_currentToken (s : State) : (endFrame s).currentToken = s.currentToken := rfl
@[simp] theorem endFrame_cursor (s : State) : (endFrame s).cursor = s.cursor := rfl
@[simp] theorem endFrame_endIndex (s : State) : (endFrame s).endIndex = s.endIndex := rfl
@[simp] theorem endFrame_mode (s : State) : (endFrame s).mode = s.mode := rfl
@[simp] theorem endFrame_cnt (s : State) : (endFrame s).cnt = s.cnt := rfl
@[simp] theorem endFrame_ocra (s : State) : (endFrame s).ocra = s.ocra := rfl
@[simp] theorem endFrame_ocrb (s : State) : (endFrame s).ocrb = s.ocrb := rfl
@[simp] theorem endFrame_run (s : State) : (endFrame s).run = false := rfl
@[simp] theorem endFrame_iea (s : State) : (endFrame s).iea = false := rfl
@[simp] theorem endFrame_ieb (s : State) : (endFrame s).ieb = false := rfl
@[simp] theorem endFrame_ifa (s : State) : (endFrame s).ifa = s.ifa := rfl
@[simp] theorem endFrame_ifb (s : State) : (endFrame s).ifb = s.ifb := rfl
@[simp] theorem endFrame_extIe (s : State) : (endFrame s).extIe = s.extIe := rfl
@[simp] theorem endFrame_syncIn (s : State) : (endFrame s).syncIn = s.syncIn := rfl
@[simp] theorem endFrame_ms (s : State) : (endFrame s).ms = s.ms := rfl
@[simp] theorem endFrame_irOut (s : State) : (endFrame s).irOut = s.irOut := rfl
@[simp] theorem endFrame_statusFrame (s : State) : (endFrame s).statusFrame = false := rfl
@[simp] theorem endFrame_fault (s : State) : (endFrame s).fault = s.fault := rfl
@[simp] theorem endFrame_params (s : State) : (endFrame s).params = s.params := rfl
@[simp] theorem endFrame_trace (s : State) : (endFrame s).trace = s.trace := rfl
@[simp] theorem endFrame_schedule (s : State) : (endFrame s).schedule = s.schedule := rfl

@[simp] theorem cancelChain_currentEye (s : State) : (cancelChain s).currentEye = s.currentEye := rfl
@[simp] theorem cancelChain_nextEye (s : State) : (cancelChain s).nextEye = s.nextEye := rfl
@[simp] theorem cancelChain_swapEyes (s : State) : (cancelChain s).swapEyes = s.swapEyes := rfl
@[simp] theorem cancelChain_synced (s : State) : (cancelChain s).synced = s.synced := rfl
@[simp] theorem cancelChain_active (s : State) : (cancelChain s).active = s.active := rfl
@[simp] theorem cancelChain_lastFrameTime (s : State) : (cancelChain s).lastFrameTime = s.lastFrameTime := rfl
@[simp] theorem cancelChain_currentToken (s : State) : (cancelChain s).currentToken = s.currentToken := rfl
@[simp] theorem cancelChain_cursor (s : State) : (cancelChain s).cursor = 0#8 := rfl
@[simp] theorem cancelChain_endIndex (s : State) : (cancelChain s).endIndex = 0#8 := rfl
@[simp] theorem cancelChain_mode (s : State) : (cancelChain s).mode = s.mode := rfl
@[simp] theorem cancelChain_cnt (s : State) : (cancelChain s).cnt = s.cnt := rfl
@[simp] theorem cancelChain_ocra (s : State) : (cancelChain s).ocra = s.ocra := rfl
@[simp] theorem cancelChain_ocrb (s : State) : (cancelChain s).ocrb = s.ocrb := rfl
@[simp] theorem cancelChain_run (s : State) : (cancelChain s).run = false := rfl
@[simp] theorem cancelChain_iea (s : State) : (cancelChain s).iea = false := rfl
@[simp] theorem cancelChain_ieb (s : State) : (cancelChain s).ieb = false := rfl
@[simp] theorem cancelChain_ifa (s : State) : (cancelChain s).ifa = false := rfl
@[simp] theorem cancelChain_ifb (s : State) : (cancelChain s).ifb = false := rfl
@[simp] theorem cancelChain_extIe (s : State) : (cancelChain s).extIe = s.extIe := rfl
@[simp] theorem cancelChain_syncIn (s : State) : (cancelChain s).syncIn = s.syncIn := rfl
@[simp] theorem cancelChain_ms (s : State) : (cancelChain s).ms = s.ms := rfl
@[simp] theorem cancelChain_irOut (s : State) : (cancelChain s).irOut = false := rfl
@[simp] theorem cancelChain_statusFrame (s : State) : (cancelChain s).statusFrame = false := rfl
@[simp] theorem cancelChain_fault (s : State) : (cancelChain s).fault = s.fault := rfl
@[simp] theorem cancelChain_params (s : State) : (cancelChain s).params = s.params := rfl
@[simp] theorem cancelChain_trace (s : State) : (cancelChain s).trace = s.trace := rfl
@[simp] theorem cancelChain_schedule (s : State) : (cancelChain s).schedule = s.schedule := rfl

@[simp] theorem selectMode_currentEye (m : Mode) (s : State) : (selectMode m s).currentEye = s.currentEye := rfl
@[simp] theorem selectMode_nextEye (m : Mode) (s : State) : (selectMode m s).nextEye = s.nextEye := rfl
@[simp] theorem selectMode_swapEyes (m : Mode) (s : State) : (selectMode m s).swapEyes = s.swapEyes := rfl
@[simp] theorem selectMode_synced (m : Mode) (s : State) : (selectMode m s).synced = false := rfl
@[simp] theorem selectMode_active (m : Mode) (s : State) : (selectMode m s).active = false := rfl
@[simp] theorem selectMode_lastFrameTime (m : Mode) (s : State) : (selectMode m s).lastFrameTime = s.lastFrameTime := rfl
@[simp] theorem selectMode_currentToken (m : Mode) (s : State) : (selectMode m s).currentToken = s.currentToken := rfl
@[simp] theorem selectMode_cursor (m : Mode) (s : State) : (selectMode m s).cursor = 0#8 := rfl
@[simp] theorem selectMode_endIndex (m : Mode) (s : State) : (selectMode m s).endIndex = 0#8 := rfl
@[simp] theorem selectMode_mode (m : Mode) (s : State) : (selectMode m s).mode = m := rfl
@[simp] theorem selectMode_cnt (m : Mode) (s : State) : (selectMode m s).cnt = s.cnt := rfl
@[simp] theorem selectMode_ocra (m : Mode) (s : State) : (selectMode m s).ocra = s.ocra := rfl
@[simp] theorem selectMode_ocrb (m : Mode) (s : State) : (selectMode m s).ocrb = s.ocrb := rfl
@[simp] theorem selectMode_run (m : Mode) (s : State) : (selectMode m s).run = false := rfl
@[simp] theorem selectMode_iea (m : Mode) (s : State) : (selectMode m s).iea = false := rfl
@[simp] theorem selectMode_ieb (m : Mode) (s : State) : (selectMode m s).ieb = false := rfl
@[simp] theorem selectMode_ifa (m : Mode) (s : State) : (selectMode m s).ifa = false := rfl
@[simp] theorem selectMode_ifb (m : Mode) (s : State) : (selectMode m s).ifb = false := rfl
@[simp] theorem selectMode_extIe (m : Mode) (s : State) : (selectMode m s).extIe = m.requiresExternal := rfl
@[simp] theorem selectMode_syncIn (m : Mode) (s : State) : (selectMode m s).syncIn = s.syncIn := rfl
@[simp] theorem selectMode_ms (m : Mode) (s : State) : (selectMode m s).ms = s.ms := rfl
@[simp] theorem selectMode_irOut (m : Mode) (s : State) : (selectMode m s).irOut = false := rfl
@[simp] theorem selectMode_statusFrame (m : Mode) (s : State) : (selectMode m s).statusFrame = false := rfl
@[simp] theorem selectMode_fault (m : Mode) (s : State) : (selectMode m s).fault = s.fault := rfl
@[simp] theorem selectMode_params (m : Mode) (s : State) : (selectMode m s).params = s.params := rfl
@[simp] theorem selectMode_trace (m : Mode) (s : State) : (selectMode m s).trace = s.trace := rfl
@[simp] theorem selectMode_schedule (m : Mode) (s : State) : (selectMode m s).schedule = s.schedule := rfl

@[simp] theorem placeWord_currentEye (w : OpWord) (s : State) : (placeWord w s).currentEye = s.currentEye := rfl
@[simp] theorem placeWord_nextEye (w : OpWord) (s : State) : (placeWord w s).nextEye = s.nextEye := rfl
@[simp] theorem placeWord_swapEyes (w : OpWord) (s : State) : (placeWord w s).swapEyes = s.swapEyes := rfl
@[simp] theorem placeWord_synced (w : OpWord) (s : State) : (placeWord w s).synced = s.synced := rfl
@[simp] theorem placeWord_active (w : OpWord) (s : State) : (placeWord w s).active = s.active := rfl
@[simp] theorem placeWord_lastFrameTime (w : OpWord) (s : State) : (placeWord w s).lastFrameTime = s.lastFrameTime := rfl
@[simp] theorem placeWord_currentToken (w : OpWord) (s : State) : (placeWord w s).currentToken = s.currentToken := rfl
@[simp] theorem placeWord_cursor (w : OpWord) (s : State) : (placeWord w s).cursor = s.cursor := rfl
@[simp] theorem placeWord_endIndex (w : OpWord) (s : State) : (placeWord w s).endIndex = s.endIndex := rfl
@[simp] theorem placeWord_mode (w : OpWord) (s : State) : (placeWord w s).mode = s.mode := rfl
@[simp] theorem placeWord_cnt (w : OpWord) (s : State) : (placeWord w s).cnt = s.cnt := rfl
@[simp] theorem placeWord_ocra (w : OpWord) (s : State) : (placeWord w s).ocra = s.ocra := rfl
@[simp] theorem placeWord_ocrb (w : OpWord) (s : State) : (placeWord w s).ocrb = s.ocrb := rfl
@[simp] theorem placeWord_run (w : OpWord) (s : State) : (placeWord w s).run = s.run := rfl
@[simp] theorem placeWord_iea (w : OpWord) (s : State) : (placeWord w s).iea = s.iea := rfl
@[simp] theorem placeWord_ieb (w : OpWord) (s : State) : (placeWord w s).ieb = s.ieb := rfl
@[simp] theorem placeWord_ifa (w : OpWord) (s : State) : (placeWord w s).ifa = s.ifa := rfl
@[simp] theorem placeWord_ifb (w : OpWord) (s : State) : (placeWord w s).ifb = s.ifb := rfl
@[simp] theorem placeWord_extIe (w : OpWord) (s : State) : (placeWord w s).extIe = s.extIe := rfl
@[simp] theorem placeWord_syncIn (w : OpWord) (s : State) : (placeWord w s).syncIn = s.syncIn := rfl
@[simp] theorem placeWord_ms (w : OpWord) (s : State) : (placeWord w s).ms = s.ms := rfl
@[simp] theorem placeWord_irOut (w : OpWord) (s : State) : (placeWord w s).irOut = s.irOut := rfl
@[simp] theorem placeWord_statusFrame (w : OpWord) (s : State) : (placeWord w s).statusFrame = s.statusFrame := rfl
@[simp] theorem placeWord_fault (w : OpWord) (s : State) : (placeWord w s).fault = s.fault := rfl
@[simp] theorem placeWord_params (w : OpWord) (s : State) : (placeWord w s).params = s.params := rfl
@[simp] theorem placeWord_trace (w : OpWord) (s : State) : (placeWord w s).trace = w :: s.trace := rfl
@[simp] theorem placeWord_schedule (w : OpWord) (s : State) : (placeWord w s).schedule = .asWritten := rfl

end Sys2Proof.Machine
end

