-- ==== Sys2Proof/Laws/Ops.lean ====
section
/-! SUPPORT. For each shared operation: what it leaves unchanged in every case, and once everything it can do. -/

namespace Sys2Proof.Machine

/-! ### Registration and reset -/

theorem powerUp_registered {p : Params} (h : p.wf = true) : powerUp p = .next (State.resetWith p h) := by
  simp [powerUp, h]

theorem powerUp_refused {p : Params} (h : p.wf = false) : powerUp p = .refused .configurationNotWellFormed := by
  simp [powerUp, h]

/-! ### `begin_token` -/

@[simp] theorem beginToken_currentEye (t : TokenIndex) (d : Nat) (s : State) : (beginToken t d s).currentEye = s.currentEye := by
  unfold beginToken; split <;> rfl
@[simp] theorem beginToken_nextEye (t : TokenIndex) (d : Nat) (s : State) : (beginToken t d s).nextEye = s.nextEye := by
  unfold beginToken; split <;> rfl
@[simp] theorem beginToken_swapEyes (t : TokenIndex) (d : Nat) (s : State) : (beginToken t d s).swapEyes = s.swapEyes := by
  unfold beginToken; split <;> rfl
@[simp] theorem beginToken_synced (t : TokenIndex) (d : Nat) (s : State) : (beginToken t d s).synced = s.synced := by
  unfold beginToken; split <;> rfl
@[simp] theorem beginToken_active (t : TokenIndex) (d : Nat) (s : State) : (beginToken t d s).active = s.active := by
  unfold beginToken; split <;> rfl
@[simp] theorem beginToken_lastFrameTime (t : TokenIndex) (d : Nat) (s : State) : (beginToken t d s).lastFrameTime = s.lastFrameTime := by
  unfold beginToken; split <;> rfl
@[simp] theorem beginToken_mode (t : TokenIndex) (d : Nat) (s : State) : (beginToken t d s).mode = s.mode := by
  unfold beginToken; split <;> rfl
@[simp] theorem beginToken_ocrb (t : TokenIndex) (d : Nat) (s : State) : (beginToken t d s).ocrb = s.ocrb := by
  unfold beginToken; split <;> rfl
@[simp] theorem beginToken_ifa (t : TokenIndex) (d : Nat) (s : State) : (beginToken t d s).ifa = s.ifa := by
  unfold beginToken; split <;> rfl
@[simp] theorem beginToken_ifb (t : TokenIndex) (d : Nat) (s : State) : (beginToken t d s).ifb = s.ifb := by
  unfold beginToken; split <;> rfl
@[simp] theorem beginToken_extIe (t : TokenIndex) (d : Nat) (s : State) : (beginToken t d s).extIe = s.extIe := by
  unfold beginToken; split <;> rfl
@[simp] theorem beginToken_syncIn (t : TokenIndex) (d : Nat) (s : State) : (beginToken t d s).syncIn = s.syncIn := by
  unfold beginToken; split <;> rfl
@[simp] theorem beginToken_ms (t : TokenIndex) (d : Nat) (s : State) : (beginToken t d s).ms = s.ms := by
  unfold beginToken; split <;> rfl
@[simp] theorem beginToken_irOut (t : TokenIndex) (d : Nat) (s : State) : (beginToken t d s).irOut = s.irOut := by
  unfold beginToken; split <;> rfl
@[simp] theorem beginToken_fault (t : TokenIndex) (d : Nat) (s : State) : (beginToken t d s).fault = s.fault := by
  unfold beginToken; split <;> rfl
@[simp] theorem beginToken_params (t : TokenIndex) (d : Nat) (s : State) : (beginToken t d s).params = s.params := by
  unfold beginToken; split <;> rfl
@[simp] theorem beginToken_trace (t : TokenIndex) (d : Nat) (s : State) : (beginToken t d s).trace = s.trace := by
  unfold beginToken; split <;> rfl
@[simp] theorem beginToken_schedule (t : TokenIndex) (d : Nat) (s : State) : (beginToken t d s).schedule = s.schedule := by
  unfold beginToken; split <;> rfl

theorem beginToken_absent {t : TokenIndex} {d : Nat} {s : State} (h : s.table.countOf t = 0#8) :
    beginToken t d s = s := by
  rw [table_eq] at h
  simp [beginToken, h]

theorem beginToken_present {t : TokenIndex} {d : Nat} {s : State} (h : s.table.countOf t ≠ 0#8) :
    beginToken t d s =
      { s with
        currentToken := t
        cursor := s.table.startOf t
        endIndex := s.table.startOf t + s.table.countOf t
        cnt := if s.run then s.cnt else 0#16
        run := true
        ocra := (if s.run then s.cnt else 0#16) + BitVec.ofNat 16 d
        iea := true
        ieb := false
        statusFrame := true } := by
  rw [table_eq] at h
  simp [beginToken, h]

/-! ### `start_frame` -/

@[simp] theorem startFrame_nextEye (s : State) : (startFrame s).nextEye = s.nextEye := by
  unfold startFrame; split <;> simp
@[simp] theorem startFrame_swapEyes (s : State) : (startFrame s).swapEyes = s.swapEyes := by
  unfold startFrame; split <;> simp
@[simp] theorem startFrame_mode (s : State) : (startFrame s).mode = s.mode := by
  unfold startFrame; split <;> simp
@[simp] theorem startFrame_ocrb (s : State) : (startFrame s).ocrb = s.ocrb := by
  unfold startFrame; split <;> simp
@[simp] theorem startFrame_ifa (s : State) : (startFrame s).ifa = s.ifa := by
  unfold startFrame; split <;> simp
@[simp] theorem startFrame_ifb (s : State) : (startFrame s).ifb = s.ifb := by
  unfold startFrame; split <;> simp
@[simp] theorem startFrame_extIe (s : State) : (startFrame s).extIe = s.extIe := by
  unfold startFrame; split <;> simp
@[simp] theorem startFrame_syncIn (s : State) : (startFrame s).syncIn = s.syncIn := by
  unfold startFrame; split <;> simp
@[simp] theorem startFrame_ms (s : State) : (startFrame s).ms = s.ms := by
  unfold startFrame; split <;> simp
@[simp] theorem startFrame_irOut (s : State) : (startFrame s).irOut = s.irOut := by
  unfold startFrame; split <;> simp
@[simp] theorem startFrame_params (s : State) : (startFrame s).params = s.params := by
  unfold startFrame; split <;> simp
@[simp] theorem startFrame_trace (s : State) : (startFrame s).trace = s.trace := by
  unfold startFrame; split <;> simp
@[simp] theorem startFrame_schedule (s : State) : (startFrame s).schedule = s.schedule := by
  unfold startFrame; split <;> simp

theorem startFrame_overlap {s : State} (h : s.run = true) : startFrame s = raise .frameOverlap s := by
  simp [startFrame, h]

theorem startFrame_idle {s : State} (h : s.run = false) :
    startFrame s =
      beginToken s.nextEye.openingSlot s.params.panTicks
        { s with active := true, currentEye := s.nextEye, lastFrameTime := s.ms, synced := false } := by
  simp [startFrame, h]

/-! ### `end_of_token` -/

@[simp] theorem endOfToken_currentEye (s : State) : (endOfToken s).currentEye = s.currentEye := by
  unfold endOfToken; simp only; split <;> simp
@[simp] theorem endOfToken_nextEye (s : State) : (endOfToken s).nextEye = s.nextEye := by
  unfold endOfToken; simp only; split <;> simp
@[simp] theorem endOfToken_swapEyes (s : State) : (endOfToken s).swapEyes = s.swapEyes := by
  unfold endOfToken; simp only; split <;> simp
@[simp] theorem endOfToken_synced (s : State) : (endOfToken s).synced = s.synced := by
  unfold endOfToken; simp only; split <;> simp
@[simp] theorem endOfToken_active (s : State) : (endOfToken s).active = s.active := by
  unfold endOfToken; simp only; split <;> simp
@[simp] theorem endOfToken_lastFrameTime (s : State) : (endOfToken s).lastFrameTime = s.lastFrameTime := by
  unfold endOfToken; simp only; split <;> simp
@[simp] theorem endOfToken_mode (s : State) : (endOfToken s).mode = s.mode := by
  unfold endOfToken; simp only; split <;> simp
@[simp] theorem endOfToken_ocrb (s : State) : (endOfToken s).ocrb = s.ocrb := by
  unfold endOfToken; simp only; split <;> simp
@[simp] theorem endOfToken_ifa (s : State) : (endOfToken s).ifa = s.ifa := by
  unfold endOfToken; simp only; split <;> simp
@[simp] theorem endOfToken_ifb (s : State) : (endOfToken s).ifb = s.ifb := by
  unfold endOfToken; simp only; split <;> simp
@[simp] theorem endOfToken_extIe (s : State) : (endOfToken s).extIe = s.extIe := by
  unfold endOfToken; simp only; split <;> simp
@[simp] theorem endOfToken_syncIn (s : State) : (endOfToken s).syncIn = s.syncIn := by
  unfold endOfToken; simp only; split <;> simp
@[simp] theorem endOfToken_ms (s : State) : (endOfToken s).ms = s.ms := by
  unfold endOfToken; simp only; split <;> simp
@[simp] theorem endOfToken_irOut (s : State) : (endOfToken s).irOut = s.irOut := by
  unfold endOfToken; simp only; split <;> simp
@[simp] theorem endOfToken_fault (s : State) : (endOfToken s).fault = s.fault := by
  unfold endOfToken; simp only; split <;> simp
@[simp] theorem endOfToken_params (s : State) : (endOfToken s).params = s.params := by
  unfold endOfToken; simp only; split <;> simp
@[simp] theorem endOfToken_trace (s : State) : (endOfToken s).trace = s.trace := by
  unfold endOfToken; simp only; split <;> simp
@[simp] theorem endOfToken_schedule (s : State) : (endOfToken s).schedule = s.schedule := by
  unfold endOfToken; simp only; split <;> simp

theorem endOfToken_cases (s : State) :
    (isOpeningSlot s.currentToken = true ∧ s.table.countOf (s.currentToken + 1#2) ≠ 0#8 ∧
      endOfToken s =
        beginToken (s.currentToken + 1#2) s.params.gapTicks { s with ieb := false }) ∨
    ((isOpeningSlot s.currentToken = false ∨ s.table.countOf (s.currentToken + 1#2) = 0#8) ∧
      endOfToken s = endFrame s) := by
  rw [table_eq]
  by_cases h1 : isOpeningSlot s.currentToken = true
  · by_cases h2 : s.params.table.countOf (s.currentToken + 1#2) = 0#8
    · exact .inr ⟨.inr h2, by simp [endOfToken, h2, endFrame]⟩
    · exact .inl ⟨h1, h2, by simp [endOfToken, h1, h2]⟩
  · exact .inr ⟨.inl (by simpa using h1), by simp [endOfToken, h1, endFrame]⟩

/-! ### The timer -/

@[simp] theorem tickTimer_currentEye (s : State) : (tickTimer s).currentEye = s.currentEye := by
  unfold tickTimer; split <;> rfl
@[simp] theorem tickTimer_nextEye (s : State) : (tickTimer s).nextEye = s.nextEye := by
  unfold tickTimer; split <;> rfl
@[simp] theorem tickTimer_swapEyes (s : State) : (tickTimer s).swapEyes = s.swapEyes := by
  unfold tickTimer; split <;> rfl
@[simp] theorem tickTimer_synced (s : State) : (tickTimer s).synced = s.synced := by
  unfold tickTimer; split <;> rfl
@[simp] theorem tickTimer_active (s : State) : (tickTimer s).active = s.active := by
  unfold tickTimer; split <;> rfl
@[simp] theorem tickTimer_lastFrameTime (s : State) : (tickTimer s).lastFrameTime = s.lastFrameTime := by
  unfold tickTimer; split <;> rfl
@[simp] theorem tickTimer_currentToken (s : State) : (tickTimer s).currentToken = s.currentToken := by
  unfold tickTimer; split <;> rfl
@[simp] theorem tickTimer_cursor (s : State) : (tickTimer s).cursor = s.cursor := by
  unfold tickTimer; split <;> rfl
@[simp] theorem tickTimer_endIndex (s : State) : (tickTimer s).endIndex = s.endIndex := by
  unfold tickTimer; split <;> rfl
@[simp] theorem tickTimer_mode (s : State) : (tickTimer s).mode = s.mode := by
  unfold tickTimer; split <;> rfl
@[simp] theorem tickTimer_ocra (s : State) : (tickTimer s).ocra = s.ocra := by
  unfold tickTimer; split <;> rfl
@[simp] theorem tickTimer_ocrb (s : State) : (tickTimer s).ocrb = s.ocrb := by
  unfold tickTimer; split <;> rfl
@[simp] theorem tickTimer_run (s : State) : (tickTimer s).run = s.run := by
  unfold tickTimer; split <;> rfl
@[simp] theorem tickTimer_iea (s : State) : (tickTimer s).iea = s.iea := by
  unfold tickTimer; split <;> rfl
@[simp] theorem tickTimer_ieb (s : State) : (tickTimer s).ieb = s.ieb := by
  unfold tickTimer; split <;> rfl
@[simp] theorem tickTimer_extIe (s : State) : (tickTimer s).extIe = s.extIe := by
  unfold tickTimer; split <;> rfl
@[simp] theorem tickTimer_syncIn (s : State) : (tickTimer s).syncIn = s.syncIn := by
  unfold tickTimer; split <;> rfl
@[simp] theorem tickTimer_ms (s : State) : (tickTimer s).ms = s.ms := by
  unfold tickTimer; split <;> rfl
@[simp] theorem tickTimer_irOut (s : State) : (tickTimer s).irOut = s.irOut := by
  unfold tickTimer; split <;> rfl
@[simp] theorem tickTimer_statusFrame (s : State) : (tickTimer s).statusFrame = s.statusFrame := by
  unfold tickTimer; split <;> rfl
@[simp] theorem tickTimer_fault (s : State) : (tickTimer s).fault = s.fault := by
  unfold tickTimer; split <;> rfl
@[simp] theorem tickTimer_params (s : State) : (tickTimer s).params = s.params := by
  unfold tickTimer; split <;> rfl
@[simp] theorem tickTimer_trace (s : State) : (tickTimer s).trace = s.trace := by
  unfold tickTimer; split <;> rfl
@[simp] theorem tickTimer_schedule (s : State) : (tickTimer s).schedule = s.schedule := by
  unfold tickTimer; split <;> rfl

theorem tickTimer_stopped {s : State} (h : s.run = false) : tickTimer s = s := by
  simp [tickTimer, h]

theorem tickTimer_running {s : State} (h : s.run = true) :
    tickTimer s =
      { s with
        cnt := s.cnt + 1#16
        ifa := flagAfterMatch s.ifa s.iea (s.cnt + 1#16) s.ocra
        ifb := flagAfterMatch s.ifb s.ieb (s.cnt + 1#16) s.ocrb } := by
  simp [tickTimer, h]

/-! ### The handlers -/

theorem risingEdge_cases (s : State) :
    (s.table.sampleAt s.cursor = none ∧
      risingEdge s = raise .tableBounds { s with ifa := false, irOut := true }) ∨
    ∃ v, s.table.sampleAt s.cursor = some v ∧
      risingEdge s =
        { s with
          ifa := false
          irOut := true
          cursor := s.cursor + 1#8
          ocrb := s.cnt + sampleTicks v
          iea := false
          ieb := true } := by
  rw [table_eq]
  cases h : s.params.table.sampleAt s.cursor with
  | none => exact .inl ⟨rfl, by simp [risingEdge, h]⟩
  | some v => exact .inr ⟨v, rfl, by simp [risingEdge, h]⟩

theorem fallingEdge_cases (s : State) :
    (s.cursor = s.endIndex ∧ fallingEdge s = endOfToken { s with ifb := false, irOut := false }) ∨
    (s.cursor ≠ s.endIndex ∧ s.table.sampleAt s.cursor = none ∧
      fallingEdge s = raise .tableBounds { s with ifb := false, irOut := false }) ∨
    (s.cursor ≠ s.endIndex ∧ ∃ v, s.table.sampleAt s.cursor = some v ∧
      fallingEdge s =
        { s with
          ifb := false
          irOut := false
          cursor := s.cursor + 1#8
          ocra := s.cnt + sampleTicks v
          iea := true
          ieb := false }) := by
  rw [table_eq]
  by_cases hc : s.cursor = s.endIndex
  · exact .inl ⟨hc, by simp [fallingEdge, hc]⟩
  · cases h : s.params.table.sampleAt s.cursor with
    | none => exact .inr (.inl ⟨hc, rfl, by simp [fallingEdge, hc, h]⟩)
    | some v => exact .inr (.inr ⟨hc, v, rfl, by simp [fallingEdge, hc, h]⟩)

/-! ### The external edge -/

theorem extEdge_cases (s : State) :
    (s.mode.requiresExternal = false ∧ extEdge s = s) ∨
    (s.mode = .combined ∧ s.synced = true ∧ extEdge s = startFrame s) ∨
    ((s.mode = .external ∨
        (s.mode = .combined ∧ s.synced = false ∧ s.params.combinedEdgeStartsUnstaged = true)) ∧
      extEdge s = startFrame (setEye (s.params.levelEye s.syncIn) s)) ∨
    (s.mode = .combined ∧ s.synced = false ∧ s.params.combinedEdgeStartsUnstaged = false ∧
      extEdge s = setEye (s.params.levelEye s.syncIn) s) := by
  cases hm : s.mode <;> cases hs : s.synced <;> cases hu : s.params.combinedEdgeStartsUnstaged <;>
    simp [extEdge, Mode.requiresExternal, hm, hs, hu]

/-! ### The meanings that can refuse -/

theorem execTick_next {s t : State} (h : execTick s = .next t) :
    s.compaDue = false ∧ s.compbDue = false ∧ t = tickTimer s := by
  unfold execTick at h
  split at h
  · cases h
  · next hd => cases h; simpa using hd

theorem execCompa_next {s t : State} (h : execCompa s = .next t) :
    s.compaDue = true ∧ t = risingEdge s := by
  unfold execCompa at h
  split at h
  · next hd => cases h; exact ⟨hd, rfl⟩
  · cases h

theorem execCompb_next {s t : State} (h : execCompb s = .next t) :
    s.compbDue = true ∧ t = fallingEdge s := by
  unfold execCompb at h
  split at h
  · next hd => cases h; exact ⟨hd, rfl⟩
  · cases h

/-! ### The meanings that always answer a next state -/

theorem execSyncin_cases (l : Bool) (s : State) :
    ((s.syncIn = l ∨ s.extIe = false) ∧ execSyncin l s = .next { s with syncIn := l }) ∨
    (s.syncIn ≠ l ∧ s.extIe = true ∧ execSyncin l s = .next (extEdge { s with syncIn := l })) := by
  by_cases h1 : s.syncIn = l <;> by_cases h2 : s.extIe = true <;> simp [execSyncin, h1, h2]

theorem execPkt_cases (m sel : Byte) (s : State) :
    ((s.mode.requiresDriver = false ∨ m ≠ s.params.hostMarker) ∧ execPkt m sel s = .next s) ∨
    (m = s.params.hostMarker ∧ s.mode = .driver ∧
      execPkt m sel s = .next (startFrame (setEye (s.params.selectorEye sel) s))) ∨
    (m = s.params.hostMarker ∧ s.mode = .combined ∧
      execPkt m sel s = .next (setEye (s.params.selectorEye sel) s)) := by
  by_cases hk : m = s.params.hostMarker <;> cases hm : s.mode <;>
    simp [execPkt, Mode.requiresDriver, hm, hk]

theorem execPollf_cases (s : State) :
    ((s.mode ≠ .freerun ∨ s.periodReached = false) ∧ execPollf s = .next s) ∨
    (s.mode = .freerun ∧ s.periodReached = true ∧
      execPollf s = .next (startFrame { s with nextEye := s.currentEye.other })) := by
  by_cases h1 : s.mode = .freerun <;> by_cases h2 : s.periodReached = true <;>
    simp [execPollf, h1, h2]

theorem execPolll_cases (s : State) :
    ((s.active = false ∨ s.timeoutReached = false) ∧ execPolll s = .next s) ∨
    (s.active = true ∧ s.timeoutReached = true ∧ execPolll s = .next { s with active := false }) := by
  by_cases h1 : s.active = true <;> by_cases h2 : s.timeoutReached = true <;>
    simp [execPolll, h1, h2]

theorem execMode_cases (c : Byte) (s : State) :
    (Mode.ofCode c = none ∧ execMode c s = .next s) ∨
    ∃ m, Mode.ofCode c = some m ∧ execMode c s = .next (selectMode m s) := by
  cases h : Mode.ofCode c with
  | none => exact .inl ⟨rfl, by simp [execMode, h]⟩
  | some m => exact .inr ⟨m, rfl, by simp [execMode, h]⟩

/-! ### The step -/

theorem takeWord_cases (d : Except DecodeError Instr) (rest : List OpWord) (s : State) :
    (∃ i, d = .ok i ∧ takeWord d rest s = .perform i { s with trace := rest }) ∨
    ∃ e, d = .error e ∧ takeWord d rest s = .idle { s with trace := rest } := by
  cases d with
  | ok i => exact .inl ⟨i, rfl, rfl⟩
  | error e => exact .inr ⟨e, rfl, rfl⟩

theorem dueEvent_some {s : State} {e : Instr} (h : s.dueEvent = some e) :
    (e = .compa ∧ s.compaDue = true) ∨ (e = .compb ∧ s.compaDue = false ∧ s.compbDue = true) := by
  unfold State.dueEvent at h
  by_cases h1 : s.compaDue = true <;> by_cases h2 : s.compbDue = true <;> simp_all

theorem dueEvent_none {s : State} : s.dueEvent = none ↔ s.compaDue = false ∧ s.compbDue = false := by
  unfold State.dueEvent
  by_cases h1 : s.compaDue = true <;> by_cases h2 : s.compbDue = true <;> simp_all

/-- Everything the choice of the next operation can be. -/
theorem selectOperation_cases (s : State) :
    (∃ e, s.dueEvent = some e ∧ selectOperation s = .perform e s) ∨
    (s.trace = [] ∧ s.dueEvent = none ∧ selectOperation s = .idle s) ∨
    (∃ w rest i, s.trace = w :: rest ∧ decode w = .ok i ∧
      (s.dueEvent = none ∨ waitsForHandler s.schedule (.ok i) = false) ∧
      selectOperation s = .perform i { s with trace := rest }) ∨
    ∃ w rest e, s.trace = w :: rest ∧ decode w = .error e ∧
      selectOperation s = .idle { s with trace := rest } := by
  cases ht : s.trace with
  | nil =>
    cases hd : s.dueEvent with
    | none => exact .inr (.inl ⟨rfl, rfl, by simp [selectOperation, ht, hd]⟩)
    | some e => exact .inl ⟨e, rfl, by simp [selectOperation, ht, hd]⟩
  | cons w rest =>
    cases hd : s.dueEvent with
    | none =>
      cases hw : decode w with
      | ok i => exact .inr (.inr (.inl ⟨w, rest, i, rfl, hw, .inl rfl, by simp [selectOperation, ht, hd, hw, takeWord]⟩))
      | error e => exact .inr (.inr (.inr ⟨w, rest, e, rfl, hw, by simp [selectOperation, ht, hd, hw, takeWord]⟩))
    | some e =>
      by_cases hs : waitsForHandler s.schedule (decode w) = true
      · exact .inl ⟨e, rfl, by simp [selectOperation, ht, hd, hs]⟩
      · cases hw : decode w with
        | ok i =>
          rw [hw] at hs
          exact .inr (.inr (.inl ⟨w, rest, i, rfl, hw, .inr (by simpa using hs),
            by simp [selectOperation, ht, hd, hs, hw, takeWord]⟩))
        | error e' =>
          rw [hw] at hs
          exact .inr (.inr (.inr ⟨w, rest, e', rfl, hw, by simp [selectOperation, ht, hd, hs, hw, takeWord]⟩))

theorem select_live {s : State} (hf : s.fault = none) :
    select s = selectOperation s := by
  simp [select, hf]

/-- What a step that answers a next state did: an operation was performed, with its word taken from the list or as a due
handler, or nothing but the list of words changed. -/
theorem step_next_cases {s t : State} (h : step s = .next t) :
    s.fault = none ∧
    ((∃ i rest, exec i { s with trace := rest } = .next t) ∨ ∃ rest, t = { s with trace := rest }) := by
  by_cases hf : s.fault = none
  · refine ⟨hf, ?_⟩
    unfold step at h
    rw [select_live hf] at h
    obtain ⟨e, -, hs⟩ | ⟨-, -, hs⟩ | ⟨w, rest, i, -, -, -, hs⟩ | ⟨w, rest, e, -, -, hs⟩ :=
      selectOperation_cases s <;> rw [hs] at h
    · exact .inl ⟨e, s.trace, h⟩
    · cases h; exact .inr ⟨s.trace, rfl⟩
    · exact .inl ⟨i, rest, h⟩
    · cases h; exact .inr ⟨rest, rfl⟩
  · obtain ⟨f, hf⟩ := Option.ne_none_iff_exists'.mp hf
    simp [step, select, hf] at h

end Sys2Proof.Machine
end

