-- ==== Sys2Proof/Laws/Exec.lean ====
section
/-! SUPPORT. Everything an operation can do, said once: the inversion of `exec`, from which frames and invariants follow. -/

namespace Sys2Proof.Machine

/-- What `exec i s` did when it answers `t`. -/
inductive Did (i : Instr) (s t : State) : Prop where
  | nothing (h : t = s)
  | ticked (hi : i = .tick) (ha : s.compaDue = false) (hb : s.compbDue = false) (h : t = tickTimer s)
  | clocked (hi : i = .mstick) (h : t = { s with ms := s.ms + 1#32 })
  | rose (hi : i = .compa) (hd : s.compaDue = true) (h : t = risingEdge s)
  | fell (hi : i = .compb) (hd : s.compbDue = true) (h : t = fallingEdge s)
  | recorded (l : Bool) (hi : i = .syncin l) (h : t = { s with syncIn := l })
  | selected (c : Byte) (m : Mode) (hi : i = .mode c) (hc : Mode.ofCode c = some m) (h : t = selectMode m s)
  | swapped (hi : i = .swap) (h : t = { s with swapEyes := !s.swapEyes })
  | expired (hi : i = .polll) (h : t = { s with active := false })
  | staged (e : Eye) (l : Bool) (hm : s.mode = .combined)
      (hi : i = .syncin l ∨ (∃ m sel, i = .pkt m sel) ∧ l = s.syncIn)
      (h : t = setEye e { s with syncIn := l })
  | started (e : Eye) (l b : Bool) (ha : AuthorizesFrame i s)
      (hi : i = .syncin l ∨ ((∃ m sel, i = .pkt m sel) ∨ i = .pollf ∧ b = s.synced) ∧ l = s.syncIn)
      (r : State) (hr : r = { s with syncIn := l, nextEye := e, synced := b }) (h : t = startFrame r)

theorem did_of_exec_syncin {l : Bool} {s t : State} (h : exec (.syncin l) s = .next t) :
    Did (.syncin l) s t := by
  obtain ⟨-, e⟩ | ⟨hl, hx, e⟩ := execSyncin_cases l s <;> rw [exec, e] at h <;> cases h
  · exact .recorded l rfl rfl
  · obtain ⟨-, e⟩ | ⟨hm, hs, e⟩ | ⟨hm, e⟩ | ⟨hm, -, -, e⟩ := extEdge_cases { s with syncIn := l } <;> rw [e]
    · exact .recorded l rfl rfl
    · exact .started s.nextEye l s.synced ⟨Ne.symm hl, hx, .inr ⟨hm, .inl hs⟩⟩ (.inl rfl) _ rfl rfl
    · refine .started ((s.params.levelEye l).xorSwap s.swapEyes) l true ⟨Ne.symm hl, hx, ?_⟩ (.inl rfl) _ rfl rfl
      exact hm.imp id fun h => ⟨h.1, .inr h.2.2⟩
    · exact .staged _ l hm (.inl rfl) rfl

theorem did_of_exec_pkt {m sel : Byte} {s t : State} (h : exec (.pkt m sel) s = .next t) :
    Did (.pkt m sel) s t := by
  obtain ⟨-, e⟩ | ⟨hk, hm, e⟩ | ⟨-, hm, e⟩ := execPkt_cases m sel s <;> rw [exec, e] at h <;> cases h
  · exact .nothing rfl
  · exact .started ((s.params.selectorEye sel).xorSwap s.swapEyes) s.syncIn true ⟨hk, hm⟩
      (.inr ⟨.inl ⟨m, sel, rfl⟩, rfl⟩) _ rfl rfl
  · exact .staged _ s.syncIn hm (.inr ⟨⟨m, sel, rfl⟩, rfl⟩) rfl

theorem did_of_exec_pollf {s t : State} (h : exec .pollf s = .next t) : Did .pollf s t := by
  obtain ⟨-, e⟩ | ⟨hm, hp, e⟩ := execPollf_cases s <;> rw [exec, e] at h <;> cases h
  · exact .nothing rfl
  · exact .started s.currentEye.other s.syncIn s.synced ⟨hm, by simpa [State.periodReached] using hp⟩
      (.inr ⟨.inr ⟨rfl, rfl⟩, rfl⟩) _ rfl rfl

/-- The inversion of `exec`. -/
theorem did_of_exec {i : Instr} {s t : State} (h : exec i s = .next t) : Did i s t := by
  cases i with
  | tick => obtain ⟨ha, hb, e⟩ := execTick_next h; exact .ticked rfl ha hb e
  | mstick => cases h; exact .clocked rfl rfl
  | syncin l => exact did_of_exec_syncin h
  | pkt m sel => exact did_of_exec_pkt h
  | mode c =>
    obtain ⟨-, e⟩ | ⟨m, hm, e⟩ := execMode_cases c s <;> rw [exec, e] at h <;> cases h
    · exact .nothing rfl
    · exact .selected c m rfl hm rfl
  | swap => cases h; exact .swapped rfl rfl
  | pollf => exact did_of_exec_pollf h
  | polll =>
    obtain ⟨-, e⟩ | ⟨-, -, e⟩ := execPolll_cases s <;> rw [exec, e] at h <;> cases h
    · exact .nothing rfl
    · exact .expired rfl rfl
  | memrd a b => cases h; exact .nothing rfl
  | memwr a b => cases h; exact .nothing rfl
  | memclr a b => cases h; exact .nothing rfl
  | compa => obtain ⟨hd, e⟩ := execCompa_next h; exact .rose rfl hd e
  | compb => obtain ⟨hd, e⟩ := execCompb_next h; exact .fell rfl hd e

/-- An authorized trigger reaches `start_frame`, with only the line's level and the staging written before it. -/
theorem exec_of_authorizes {i : Instr} {s : State} (h : AuthorizesFrame i s) :
    ∃ (e : Eye) (l b : Bool) (r : State),
      r = { s with syncIn := l, nextEye := e, synced := b } ∧ exec i s = .next (startFrame r) := by
  cases i with
  | syncin l =>
    obtain ⟨hl, hx, hm⟩ := h
    have hs : exec (.syncin l) s = .next (extEdge { s with syncIn := l }) := by
      simp [exec, execSyncin, Ne.symm hl, hx]
    obtain ⟨hr, -⟩ | ⟨-, -, e⟩ | ⟨-, e⟩ | ⟨hc, hy, hu, -⟩ := extEdge_cases { s with syncIn := l }
    · obtain hm | ⟨hm, -⟩ := hm <;> simp [hm, Mode.requiresExternal] at hr
    · exact ⟨_, _, _, _, rfl, e ▸ hs⟩
    · exact ⟨_, _, _, _, rfl, e ▸ hs⟩
    · obtain hm | ⟨-, hm | hm⟩ := hm <;> simp_all
  | pkt m sel => exact ⟨_, _, _, _, rfl, by simp [exec, execPkt, h.1, h.2, Mode.requiresDriver, setEye]; rfl⟩
  | pollf => exact ⟨_, s.syncIn, s.synced, _, rfl, by simp [exec, execPollf, State.periodReached, h.1, h.2]; rfl⟩
  | tick => cases h
  | mstick => cases h
  | mode c => cases h
  | swap => cases h
  | polll => cases h
  | memrd a b => cases h
  | memwr a b => cases h
  | memclr a b => cases h
  | compa => cases h
  | compb => cases h

end Sys2Proof.Machine
end

