-- ==== Sys2Proof/Laws/PerInstr.lean ====
section
/-! SUPPORT. A statement for every operation of the set: the word it is encoded as matches its row of spec/opcode_table.json. -/

namespace Sys2Proof.Laws.RowMatch

/-- The word of a well-formed operation matches its row. -/
def Statement (i : Instr) : Prop := i.WellFormed → encode i &&& i.rowMask = i.rowMatch

theorem tick : Statement .tick := fun _ => by decide
theorem mstick : Statement .mstick := fun _ => by decide
theorem syncin (level : Bool) : Statement (.syncin level) := fun _ => by revert level; decide
theorem pkt (marker selector : Byte) : Statement (.pkt marker selector) :=
  fun _ => opWord_and_selectorMask _ _ _
theorem mode (code : Byte) : Statement (.mode code) := by
  revert code; unfold Statement; decide
theorem swap : Statement .swap := fun _ => by decide
theorem pollf : Statement .pollf := fun _ => by decide
theorem polll : Statement .polll := fun _ => by decide
theorem memrd (a b : Byte) : Statement (.memrd a b) := fun _ => opWord_and_selectorMask _ _ _
theorem memwr (a b : Byte) : Statement (.memwr a b) := fun _ => opWord_and_selectorMask _ _ _
theorem memclr (a b : Byte) : Statement (.memclr a b) := fun _ => opWord_and_selectorMask _ _ _
theorem compa : Statement .compa := fun _ => by decide
theorem compb : Statement .compb := fun _ => by decide

end Sys2Proof.Laws.RowMatch
end

