-- ==== Sys2Proof/Laws/Registration.lean ====
section
/-! SUPPORT. What a well-formed configuration gives: the selected table is one of the library, and what every present slot of it
satisfies. -/

namespace Sys2Proof

theorem Params.table_mem_library {p : Params} (h : p.wf = true) : p.table ∈ p.library := by
  simp only [Params.wf, Bool.and_eq_true, decide_eq_true_eq] at h
  simp [Params.table, List.getD, h.1.2]

theorem Params.table_wf {p : Params} (h : p.wf = true) : p.table.wf = true := by
  have hm := p.table_mem_library h
  simp only [Params.wf, Bool.and_eq_true, List.all_eq_true] at h
  exact h.2 _ hm

theorem Params.delays_of_wf {p : Params} (h : p.wf = true) :
    1 ≤ p.panTicks ∧ p.panTicks ≤ 65535 ∧ 1 ≤ p.gapTicks ∧ p.gapTicks ≤ 65535 := by
  simp only [Params.wf, Bool.and_eq_true, decide_eq_true_eq] at h
  omega

theorem mem_tokenIndices (t : TokenIndex) : t ∈ tokenIndices := by
  revert t; decide

/-- What registration says of a present slot (20_memory.md R42). -/
theorem Table.slot_of_wf {T : Table} (h : T.wf = true) {t : TokenIndex} (hp : T.countOf t ≠ 0#8) :
    (T.startOf t).toNat + (T.countOf t).toNat ≤ T.samples.length ∧ T.samples.length ≤ 255 ∧
    (T.countOf t).toNat % 2 = 1 ∧
    ∀ v ∈ (T.samples.drop (T.startOf t).toNat).take (T.countOf t).toNat, 1 ≤ v.toNat ∧ v.toNat ≤ 32767 := by
  simp only [Table.wf, Bool.and_eq_true, List.all_eq_true] at h
  obtain ⟨h3, ht⟩ := h
  obtain ⟨⟨h1, h2⟩, h4⟩ := ht t (mem_tokenIndices t)
  exact ⟨by simpa [Table.wf1, hp] using h1, by simpa [Table.wf3] using h3, by simpa [Table.wf2, hp] using h2,
    by simpa [Table.wf4] using h4⟩

end Sys2Proof
end

