-- ==== Sys2Proof/Machine/Agents.lean ====
section
/-! DEFINITION. Who performs an operation, and in which context (00_scope.md R7, 60_exceptions.md R132). -/

namespace Sys2Proof.Machine

/-- The kinds of operation that have a row of the opcode table (00_scope.md R7). -/
inductive Kind where
  | stimulus
  | hardwareEvent
deriving DecidableEq, Repr

/-- The agents that perform steps (00_scope.md R7). -/
inductive Agent where
  | timerClock
  | compareUnit
  | millisecondTick
  | syncLine
  | hostTransport
  | mainLoop
deriving DecidableEq, Repr

/-- The execution contexts (60_exceptions.md R132); `TICK` belongs to neither of the two. -/
inductive Context where
  | interrupt
  | mainLoop
  | timerHardware
deriving DecidableEq, Repr

/-- The agent of an operation (00_scope.md R7). -/
def agentOf : Instr → Agent
  | .tick => .timerClock
  | .mstick => .millisecondTick
  | .syncin _ => .syncLine
  | .pkt _ _ => .hostTransport
  | .mode _ => .hostTransport
  | .swap => .hostTransport
  | .pollf => .mainLoop
  | .polll => .mainLoop
  | .memrd _ _ => .hostTransport
  | .memwr _ _ => .hostTransport
  | .memclr _ _ => .hostTransport
  | .compa => .compareUnit
  | .compb => .compareUnit

/-- Only the compare unit's operations are hardware events (00_scope.md R7). -/
def kindOf (i : Instr) : Kind :=
  match agentOf i with
  | .compareUnit => .hardwareEvent
  | .timerClock => .stimulus
  | .millisecondTick => .stimulus
  | .syncLine => .stimulus
  | .hostTransport => .stimulus
  | .mainLoop => .stimulus

/-- The context of an agent's operations (60_exceptions.md R132). -/
def contextOf (i : Instr) : Context :=
  match agentOf i with
  | .compareUnit => .interrupt
  | .millisecondTick => .interrupt
  | .syncLine => .interrupt
  | .hostTransport => .mainLoop
  | .mainLoop => .mainLoop
  | .timerClock => .timerHardware

end Sys2Proof.Machine
end

