-- ==== Sys2Proof/Tests/Slice0.lean ====
section
/-! SUPPORT. Tests: ill-formed configurations and operations, the words of spec/95_test_vectors.md VE, its vectors one step at a
time, and a witness for the hypotheses of every statement of Certificates/Slice0/Obligations.lean that has some. -/

namespace Sys2Proof.Tests

open Sys2Proof Sys2Proof.Machine

/-! ### The tables and states of spec/95_test_vectors.md -/

/-- T1 of spec/95_test_vectors.md, made up there for testing. -/
def tableT1 : Table :=
  { start := #v[0, 3, 6, 9], count := #v[3, 3, 3, 1], samples := [20, 30, 40, 25, 35, 45, 22, 32, 42, 50] }

/-- T2. -/
def tableT2 : Table := { start := #v[0, 0, 1, 0], count := #v[1, 0, 1, 0], samples := [100, 150] }

/-- T3. -/
def tableT3 : Table := { start := #v[0, 1, 2, 3], count := #v[1, 1, 1, 1], samples := [60, 70, 80, 90] }

/-- T4. -/
def tableT4 : Table := { start := #v[0, 0, 0, 0], count := #v[0, 0, 1, 0], samples := [10] }

/-- T5. -/
def tableT5 : Table := { start := #v[0, 0, 0, 0], count := #v[1, 0, 0, 0], samples := [32767] }

/-- A table of one slot that holds the samples `ss` from `start` on. -/
def oneSlot (start count : SampleIndex) (ss : List Sample) : Table :=
  { start := #v[start, 0, 0, 0], count := #v[count, 0, 0, 0], samples := ss }

/-- The vectors' parameters: the defaults, one table, and the made-up marker byte. -/
def paramsOf (T : Table) : Params := { Params.default with library := [T], hostMarker := 0xAA#8 }

/-- A table that passes its registration. -/
abbrev TestTable := { T : Table // (paramsOf T).wf = true }

def t1 : TestTable := ⟨tableT1, by decide⟩
def t2 : TestTable := ⟨tableT2, by decide⟩
def t4 : TestTable := ⟨tableT4, by decide⟩

/-- The reset state with a table. -/
def start (T : TestTable) : State := State.resetWith (paramsOf T.1) T.2

/-- The reset state followed by the selection of a mode. -/
def inMode (T : TestTable) (m : Mode) : State := performed (.mode m.code) (start T)

/-- Start state of VC7, in the middle of a wrap of the counter. -/
def dueA : State :=
  { start t1 with
    run := true, cnt := 65530, ocra := 65530, iea := true, ifa := true, cursor := 0, endIndex := 3, statusFrame := true }

/-- Start state of VS1 to VS6: the last falling edge of token `t` is due. -/
def dueB (T : TestTable) (t : TokenIndex) : State :=
  { start T with
    run := true, active := true, statusFrame := true, irOut := true, ieb := true, ifb := true, cnt := 6180, ocrb := 6180
    currentToken := t, cursor := T.1.startOf t + T.1.countOf t, endIndex := T.1.startOf t + T.1.countOf t }

/-- The first falling edge of token 0 of T1 is due. -/
def dueFirstB : State := { dueB t1 0 with cursor := 1 }

/-- The chain after `begin_token(2, 6000)` (VC1). -/
def awaiting : State := beginToken 2#2 6000 (start t1)

/-! ### Registration: every check refuses a term -/

theorem test_tables_well_formed :
    tableT1.wf && tableT2.wf && tableT3.wf && tableT4.wf && tableT5.wf && Table.empty.wf &&
      (oneSlot 9 0 [7]).wf && (oneSlot 250 5 (List.replicate 255 1)).wf = true := by decide +kernel
/-- VM10. -/
theorem test_wf1_refuses : (oneSlot 9 3 (List.replicate 10 1)).wf = false := by decide
/-- VM3's first slot. -/
theorem test_wf2_refuses : (oneSlot 0 2 [5, 5]).wf = false := by decide
/-- VM8. -/
theorem test_wf3_refuses : (oneSlot 0 1 (List.replicate 256 1)).wf = false := by decide +kernel
/-- VM4, VM5. -/
theorem test_wf4_refuses : (oneSlot 0 1 [0]).wf = false ∧ (oneSlot 0 1 [32768]).wf = false := by decide
/-- VM2. -/
theorem test_vm2_refuses :
    Table.wf { start := #v[0, 3, 6, 9], count := #v[3, 3, 3, 2], samples := List.replicate 10 1 } = false := by decide
/-- The ranges of 00_scope.md R5 and R6, each at the first value outside. -/
theorem test_params_refused :
    (Params.wf { paramsOf tableT1 with panTicks := 0 } = false) ∧ (Params.wf { paramsOf tableT1 with panTicks := 65536 } = false) ∧
    (Params.wf { paramsOf tableT1 with gapTicks := 0 } = false) ∧ (Params.wf { paramsOf tableT1 with gapTicks := 65536 } = false) ∧
    (Params.wf { paramsOf tableT1 with freerunPeriodMs := 2147483648 } = false) ∧
    (Params.wf { paramsOf tableT1 with timeoutMs := 2147483648 } = false) ∧
    (Params.wf { paramsOf tableT1 with protoSel := 1 } = false) ∧
    (Params.wf { paramsOf tableT1 with library := [tableT1, oneSlot 0 1 [0]] } = false) := by decide
theorem test_mode_five_ill_formed : ¬Instr.WellFormed (.mode 5) := by decide

/-- A refused table gets no state; a registered one gets the reset state. -/
theorem test_power_up :
    powerUp (paramsOf (oneSlot 0 2 [5, 5])) = .refused .configurationNotWellFormed ∧
    powerUp (paramsOf tableT1) = .next (start t1) := ⟨rfl, rfl⟩

/-! ### Decoding: the words of VE, written out from 30_encoding.md R62 -/

theorem test_decode_tick : decode 0x010000#24 = .ok .tick := by rfl
theorem test_decode_mstick : decode 0x020000#24 = .ok .mstick := by rfl
theorem test_decode_syncin : decode 0x030001#24 = .ok (.syncin true) := by rfl
theorem test_decode_syncin_low : decode 0x030000#24 = .ok (.syncin false) := by rfl
theorem test_decode_pkt : decode 0x10AAFE#24 = .ok (.pkt 0xAA 0xFE) := by rfl
theorem test_decode_mode : decode 0x110003#24 = .ok (.mode 3) := by rfl
theorem test_decode_swap : decode 0x120000#24 = .ok .swap := by rfl
theorem test_decode_pollf : decode 0x200000#24 = .ok .pollf := by rfl
theorem test_decode_polll : decode 0x210000#24 = .ok .polll := by rfl
theorem test_decode_memrd : decode 0x301234#24 = .ok (.memrd 0x12 0x34) := by rfl
theorem test_decode_memwr : decode 0x310110#24 = .ok (.memwr 0x01 0x10) := by rfl
theorem test_decode_memclr : decode 0x32FFFE#24 = .ok (.memclr 0xFF 0xFE) := by rfl
theorem test_decode_compa : decode 0x800000#24 = .ok .compa := by rfl
theorem test_decode_compb : decode 0x810000#24 = .ok .compb := by rfl
/-- VE's illegal words and those of VA24. -/
theorem test_decode_illegal :
    decode 0x030002#24 = .error .levelAboveOne ∧ decode 0x110005#24 = .error .modeAboveFour ∧
    decode 0x110103#24 = .error .operandNotZero ∧ decode 0x120001#24 = .error .operandNotZero ∧
    decode 0x010100#24 = .error .operandNotZero := by exact ⟨rfl, rfl, rfl, rfl, rfl⟩
/-- VE's reserved words. -/
theorem test_decode_reserved :
    decode 0x000000#24 = .error .reservedOpcode ∧ decode 0x040000#24 = .error .reservedOpcode ∧
    decode 0x7F0000#24 = .error .reservedOpcode ∧ decode 0x820000#24 = .error .reservedOpcode ∧
    decode 0xFF0000#24 = .error .reservedOpcode := by exact ⟨rfl, rfl, rfl, rfl, rfl⟩
theorem test_decode_table_word :
    decodeTableWord 24 0x110004 = some (.mode 4) ∧ decodeTableWord 24 0x1000000 = none := by decide
/-- R65's eye of the two selector bytes of VE. -/
theorem test_selector_eye :
    (paramsOf tableT1).selectorEye 0x01 = .left ∧ (paramsOf tableT1).selectorEye 0xFE = .right := by decide
/-- 30_encoding.md R66: a line of text, with a comment and a mode by name. -/
theorem test_assemble_mode :
    assembleLine ['M', 'O', 'D', 'E', ' ', 'D', 'R', 'I', 'V', 'E', 'R', ' ', ';', 'x'] =
      some (some (.word 0x110001#24)) := by decide
theorem test_assemble_pkt :
    assembleLine ['P', 'K', 'T', ' ', '0', 'x', 'A', 'A', ',', ' ', '1'] = some (some (.word 0x10AA01#24)) := by decide

/-! ### One operation: spec/95_test_vectors.md -/

/-- VR1, VR3. -/
theorem test_reset_is_deaf :
    performed (.pkt 0xAA 0x01) (start t1) = start t1 ∧ performed .pollf (start t1) = start t1 ∧
    performed .polll (start t1) = start t1 ∧ performed .tick (start t1) = start t1 := by decide
/-- VT2. -/
theorem test_tick_matches :
    let t := performed .tick { start t1 with run := true, cnt := 5999, ocra := 6000, iea := true }
    t.cnt = 6000 ∧ t.ifa = true ∧ t.ifb = false := by decide
/-- VT4, with VT3's disabled channel. -/
theorem test_tick_wraps :
    let t := performed .tick { start t1 with run := true, cnt := 65535, ocra := 0, ocrb := 0, iea := true }
    t.cnt = 0 ∧ t.ifa = true ∧ t.ifb = false := by decide
/-- VT6. -/
theorem test_mstick_wraps :
    (performed .mstick { start t1 with ms := 0xFFFFFFFF }).ms = 0 := by decide
/-- VA6. -/
theorem test_syncin_external_starts :
    let t := performed (.syncin true) (inMode t1 .external)
    t.currentEye = .left ∧ t.currentToken = 2 ∧ t.cursor = 6 ∧ t.endIndex = 9 ∧ t.ocra = 6000 ∧ t.run = true ∧
    t.synced = false ∧ t.active = true ∧ t.syncIn = true := by decide
/-- P6's last operation: the writes before the fault are made, none of `start_frame`'s is. -/
theorem test_syncin_overlap :
    let t := performed (.syncin false) (performed (.syncin true) (inMode t1 .external))
    t.syncIn = false ∧ t.nextEye = .right ∧ t.synced = true ∧ t.currentEye = .left ∧ t.fault = some .frameOverlap := by decide
/-- VA12: the swap enters the staged eye. -/
theorem test_pkt_swapped :
    let t := performed (.pkt 0xAA 0x01) (performed (.mode 1) (performed .swap (start t1)))
    t.nextEye = .right ∧ t.currentEye = .right ∧ t.currentToken = 0 ∧ t.run = true := by decide
/-- VA3. -/
theorem test_pkt_combined_stages :
    performed (.pkt 0xAA 0x01) (inMode t1 .combined) =
      { inMode t1 .combined with nextEye := .left, synced := true } := by decide
/-- VA16, with the whole of R92's cancellation. -/
theorem test_mode_cancels :
    performed (.mode 2) { dueB t1 3 with mode := .external, extIe := true } =
      { start t1 with
        mode := .external, extIe := true, currentToken := 3, cnt := 6180, ocrb := 6180 } := by decide
/-- VA23. -/
theorem test_mode_seven_ignored : performed (.mode 7) awaiting = awaiting := by decide
/-- VA11: a staged eye is not swapped again. -/
theorem test_swap_leaves_the_staged_eye :
    let t := performed .swap (performed (.pkt 0xAA 0x01) (inMode t1 .combined))
    t.swapEyes = true ∧ t.nextEye = .left := by decide
/-- VA14. -/
theorem test_pollf_flips :
    let t := performed .pollf { inMode t1 .freerun with ms := 9 }
    t.currentEye = .left ∧ t.nextEye = .left ∧ t.lastFrameTime = 9 ∧ t.currentToken = 2 := by decide
/-- VA15. -/
theorem test_pollf_below :
    performed .pollf { inMode t1 .freerun with ms := 8 } = { inMode t1 .freerun with ms := 8 } := by decide
/-- VA21. -/
theorem test_polll_modular :
    (performed .polll { start t1 with active := true, lastFrameTime := 0xFFFFFF00, ms := 0x10 }).active = false := by decide
/-- VA22. -/
theorem test_polll_below :
    (performed .polll { start t1 with active := true, lastFrameTime := 0xFFFFFF00, ms := 0xFFFFFFC7 }).active = true := by
  decide
/-- VA25. -/
theorem test_memory_requests :
    performed (.memrd 0 0) awaiting = awaiting ∧ performed (.memwr 0x01 0x10) awaiting = awaiting ∧
    performed (.memclr 0xFF 0xFF) awaiting = awaiting := by decide
/-- VC7. -/
theorem test_compa_wraps :
    performed .compa dueA =
      { dueA with ifa := false, irOut := true, cursor := 1, ocrb := 34, iea := false, ieb := true } := by decide
/-- 60_exceptions.md R126 F2. -/
theorem test_compa_table_bounds :
    let t := performed .compa { dueA with cursor := 10 }
    t.fault = some .tableBounds ∧ t.irOut = true ∧ t.cursor = 10 ∧ t.iea = true := by decide
/-- VS1. -/
theorem test_compb_chains :
    let t := performed .compb (dueB t1 0)
    t.currentToken = 1 ∧ t.cursor = 3 ∧ t.endIndex = 6 ∧ t.ocra = 8180 ∧ t.iea = true ∧ t.ieb = false ∧ t.run = true ∧
    t.irOut = false ∧ t.cnt = 6180 ∧ t.phase = .awaitingPan := by decide
/-- VS4, VS5. -/
theorem test_compb_ends :
    (performed .compb (dueB t1 3)).phase = .idle ∧ (performed .compb (dueB t2 0)).run = false ∧
    (performed .compb (dueB t2 0)).statusFrame = false := by decide
/-- VC1, VC4. -/
theorem test_begin_token :
    awaiting.cursor = 6 ∧ awaiting.endIndex = 9 ∧ awaiting.ocra = 6000 ∧ awaiting.phase = .awaitingPan ∧
    beginToken 0 6000 (start t4) = start t4 := by decide
/-- VA26. -/
theorem test_frame_without_tokens :
    let t := performed (.pkt 0xAA 0x00) { inMode t4 .driver with ms := 5 }
    t.active = true ∧ t.lastFrameTime = 5 ∧ t.run = false ∧ t.statusFrame = false := by decide
/-- The word placed at reset runs first, and so does an illegal one (30_encoding.md R63). -/
theorem test_placed_word :
    (∃ t, step (State.reset.withFetchWord 24 0x030001) = .next t ∧ t.syncIn = true ∧ t.trace = []) ∧
    ∃ t, step (State.reset.withFetchWord 24 0x030002) = .next t ∧ t.syncIn = false ∧ t.trace = [] :=
  ⟨⟨_, rfl, rfl, rfl⟩, ⟨_, rfl, rfl, rfl⟩⟩
/-- The three kinds of agents of 00_scope.md R7. -/
theorem test_contexts :
    kindOf .compa = .hardwareEvent ∧ kindOf .tick = .stimulus ∧ contextOf .compb = .interrupt ∧
    contextOf (.syncin true) = .interrupt ∧ contextOf .pollf = .mainLoop ∧ contextOf .tick = .timerHardware := by decide

/-! ### Witnesses: states and operands that meet the hypotheses of each statement -/

theorem reset_chain : ChainInv (start t1) :=
  ⟨by constructor <;> decide, by constructor <;> decide⟩
theorem awaiting_chain : ChainInv awaiting :=
  ⟨by constructor <;> decide, by constructor <;> decide⟩
theorem dueA_chain : ChainInv dueA :=
  ⟨by constructor <;> decide, by constructor <;> decide⟩
theorem dueB_chain : ChainInv (dueB t1 0) :=
  ⟨by constructor <;> decide, by constructor <;> decide⟩
theorem dueFirstB_chain : ChainInv dueFirstB :=
  ⟨by constructor <;> decide, by constructor <;> decide⟩
theorem dueLastB_chain : ChainInv (dueB t1 3) :=
  ⟨by constructor <;> decide, by constructor <;> decide⟩

theorem witness_ResetIsAModeSelectionFromZero :
    ((paramsOf tableT1).wf = true ∧ (paramsOf tableT1).resetMode = .none) ∧
    ∃ s t : State, s ≠ start t1 ∧ s.mode = .none ∧ s.extIe = false ∧ exec .swap s = .next t ∧ ∀ c, Instr.swap ≠ .mode c :=
  ⟨by decide, { start t1 with syncIn := true, ms := 5 }, _, by decide, rfl, rfl, rfl, nofun⟩
theorem witness_InvariantsHoldAtReset :
    Params.wf { paramsOf tableT1 with resetMode := .combined, resetEye := .left } = true := by decide
theorem witness_StepKeepsTheChainInvariant :
    ∃ t, ChainInv awaiting ∧ step { awaiting with trace := [0x010000#24] } = .next t ∧ t.cnt = 1 :=
  ⟨_, awaiting_chain, rfl, rfl⟩
theorem witness_StepKeepsStagingInCombined :
    ∃ t, StagedOnlyInCombined { start t1 with mode := .combined, synced := true, trace := [0x120000#24] } ∧
      step { start t1 with mode := .combined, synced := true, trace := [0x120000#24] } = .next t ∧
      t.synced = true :=
  ⟨_, fun _ _ => rfl, rfl, rfl⟩
theorem witness_TableBoundsIsUnreachable :
    ∃ t, ChainInv dueFirstB ∧ dueFirstB.fault ≠ some .tableBounds ∧ step dueFirstB = .next t ∧ t.cursor = 2 :=
  ⟨_, dueFirstB_chain, by decide, rfl, rfl⟩
theorem witness_FaultIsStickyAndStopsTheMachine :
    (∃ t, (raise .frameOverlap awaiting).fault ≠ none ∧ exec .swap (raise .frameOverlap awaiting) = .next t) ∧
    (raise .tableBounds awaiting).fault = some .tableBounds :=
  ⟨⟨_, by decide, rfl⟩, rfl⟩
theorem witness_TableIsNeverWritten :
    (∃ t, exec .compa dueA = .next t) ∧ ∃ t, step (dueB t1 0) = .next t := ⟨⟨_, rfl⟩, ⟨_, rfl⟩⟩
theorem witness_WellFormedTableMeetsWF1ToWF4 :
    (oneSlot 250 5 (List.replicate 255 1)).wf = true ∧ (oneSlot 250 5 (List.replicate 255 1)).countOf 0 ≠ 0#8 := by decide +kernel
theorem witness_DecodeOfEncodeGivesTheInstruction :
    Instr.WellFormed (.mode 4) ∧ Instr.WellFormed (.pkt 0xFF 0xFF) := by decide
theorem witness_EncodeOfDecodeGivesTheWord : decode 0x32FFFF#24 = .ok (.memclr 0xFF 0xFF) := by rfl
theorem witness_OpcodeTableRowsDoNotOverlap :
    decode 0x110004#24 = .ok (.mode 4) ∧
    0x110004#24 &&& Instr.rowMask (.mode 4) = Instr.rowMatch (.mode 4) ∧
    0x110004#24 &&& Instr.rowMask (.mode 0) = Instr.rowMatch (.mode 0) := by exact ⟨rfl, by decide, by decide⟩
theorem witness_StepRunsTheDecodedWord :
    (dueA.fault = none ∧ decode 0x010000#24 = .ok .tick ∧ decode 0x800000#24 = .ok .compa ∧
      decode 0x810000#24 = .ok .compb ∧ decode 0x020000#24 = .ok .mstick) ∧
    State.dueEvent awaiting = none ∧ State.dueEvent dueA = some .compa ∧
    State.schedule { dueA with schedule := .asWritten } = .asWritten :=
  ⟨⟨rfl, rfl, rfl, rfl, rfl⟩, by decide, by decide, rfl⟩
theorem witness_StepServesADueHandlerFirst :
    (dueA.fault = none ∧ dueA.dueEvent = some .compa ∧ dueA.trace = []) ∧
    ((dueB t1 0).dueEvent = some .compb ∧ decode 0x010000#24 = .ok .tick) ∧
    dueA.schedule = .eager ∧ decode 0x020000#24 = .ok .mstick :=
  ⟨⟨rfl, by decide, rfl⟩, ⟨by decide, rfl⟩, rfl, rfl⟩
theorem witness_ReservedAndIllegalWordsAreIgnored :
    (dueA.fault = none ∧ awaiting.fault = none ∧
      awaiting.dueEvent = none) ∧
    State.schedule { dueA with schedule := .asWritten } = .asWritten ∧
    decode 0xFF1234#24 = .error .reservedOpcode ∧ decode 0x110005#24 = .error .modeAboveFour :=
  ⟨by decide, rfl, rfl, rfl⟩
theorem witness_IdleBlockWaitsAndIllFormedIsRefused :
    (awaiting.fault = none ∧ awaiting.trace = [] ∧ awaiting.dueEvent = none) ∧
    (paramsOf (oneSlot 0 1 [0])).wf = false ∧ (paramsOf tableT1).wf = true := by decide
theorem witness_EveryStimulusWordHasAnOutcome :
    dueA.fault = none ∧
    ∀ w rest, State.trace { dueA with trace := [0x010000#24] } = w :: rest →
      decode w ≠ .ok .compa ∧ decode w ≠ .ok .compb := by
  refine ⟨rfl, fun w rest h => ?_⟩
  obtain ⟨rfl, -⟩ := List.cons.inj h
  exact ⟨nofun, nofun⟩
theorem witness_PlacedWordRunsNext :
    awaiting.fault = none ∧ decodeTableWord 24 0x010000 = some .tick ∧ awaiting.dueEvent = none ∧
    dueA.fault = none ∧ decodeTableWord 24 0x020000 = some .mstick ∧ Instr.mstick ≠ .tick := by decide
theorem witness_TickAdvancesTheTimer :
    (dueA.ifa = true ∧ dueA.iea = true) ∧ ((dueB t1 0).ifb = true ∧ (dueB t1 0).ieb = true) ∧
    (¬((start t1).ifa = true ∧ (start t1).iea = true) ∧
      ¬((start t1).ifb = true ∧ (start t1).ieb = true) ∧ (start t1).run = false) ∧
    ¬(awaiting.ifa = true ∧ awaiting.iea = true) ∧ ¬(awaiting.ifb = true ∧ awaiting.ieb = true) ∧ awaiting.run = true := by
  decide
/-- Both channels, at the offsets 1 and 65536 and just before them. -/
theorem witness_ArmingLaw :
    (∃ s : State, s.fault = none ∧ s.run = true ∧ s.ifa = false ∧ s.ifb = false ∧ s.iea = true ∧ s.ieb = false ∧
      s.ocra = s.cnt + BitVec.ofNat 16 65536 ∧ 1 ≤ 65536 ∧ 65535 ≤ 65536) ∧
    ∃ s : State, s.fault = none ∧ s.run = true ∧ s.ifa = false ∧ s.ifb = false ∧ s.ieb = true ∧ s.iea = false ∧
      s.ocrb = s.cnt + BitVec.ofNat 16 1 :=
  ⟨⟨{ start t1 with run := true, iea := true, cnt := 100, ocra := 100 }, by decide⟩,
    ⟨{ start t1 with run := true, ieb := true, cnt := 65535, ocrb := 0 }, by decide⟩⟩
theorem witness_DueHandlerSurvivesOtherStimuli :
    (dueA.dueEvent ≠ none ∧ (dueB t1 0).dueEvent ≠ none) ∧
    (∃ t, dueA.run = true ∧ exec .mstick dueA = .next t ∧ dueA.dueEvent = some .compa) ∧
    ∃ t, (4#8).toNat ≤ 4 ∧ exec (.mode 4) dueA = .next t :=
  ⟨by decide, ⟨_, rfl, rfl, by decide⟩, ⟨_, by decide, rfl⟩⟩
theorem witness_BeginTokenRule :
    (start t4).table.countOf 0 = 0#8 ∧ (start t1).table.countOf 3 ≠ 0#8 := by decide
theorem witness_CompaRule :
    ¬((start t1).ifa = true ∧ (start t1).iea = true) ∧
    (dueA.ifa = true ∧ dueA.iea = true ∧
      dueA.table.samples.length ≤ (State.cursor { dueA with cursor := 10 }).toNat) ∧
    dueA.table.samples[(State.cursor { dueA with cursor := 9 }).toNat]? = some 50 := by decide
/-- The five clauses, with both ways to end a frame. -/
theorem witness_CompbRule :
    ¬((start t1).ifb = true ∧ (start t1).ieb = true) ∧
    (dueFirstB.ifb = true ∧ dueFirstB.ieb = true ∧ (10#8 : SampleIndex) ≠ dueFirstB.endIndex ∧
      dueFirstB.table.samples.length ≤ (10#8 : SampleIndex).toNat) ∧
    (dueFirstB.cursor ≠ dueFirstB.endIndex ∧ dueFirstB.table.samples[dueFirstB.cursor.toNat]? = some 30) ∧
    ((dueB t1 2).cursor = (dueB t1 2).endIndex ∧ (dueB t1 2).currentToken.toNat % 2 = 0 ∧
      (dueB t1 2).table.countOf ((dueB t1 2).currentToken + 1#2) ≠ 0#8) ∧
    ((dueB t1 3).cursor = (dueB t1 3).endIndex ∧ (dueB t1 3).currentToken.toNat % 2 = 1) ∧
    (dueB t2 2).table.countOf ((dueB t2 2).currentToken + 1#2) = 0#8 := by decide
theorem witness_ChainOwnsThePulseCursor :
    ∃ t, awaiting.run = true ∧ exec .tick awaiting = .next t ∧ t.cnt = 1 := ⟨_, rfl, rfl, rfl⟩
/-- Idle in mode `EXTERNAL`, with a present and with an absent opening slot for the next eye. -/
theorem external_chain : ChainInv (inMode t1 .external) ∧ ChainInv (inMode t4 .external) :=
  ⟨⟨by constructor <;> decide, by constructor <;> decide⟩,
    ⟨by constructor <;> decide, by constructor <;> decide⟩⟩
/-- The rows of the transition table, in its order. -/
theorem witness_PhaseTransitionTable :
    ((inMode t1 .external).phase = .idle ∧ AuthorizesFrame (.syncin true) (inMode t1 .external)) ∧
    ((inMode t4 .external).phase = .idle ∧ AuthorizesFrame (.syncin true) (inMode t4 .external)) ∧
    (∃ s, ChainInv s ∧ s.phase ≠ .idle ∧ AuthorizesFrame (.syncin true) s) ∧
    (ChainInv dueA ∧ dueA.compaDue = true) ∧
    (ChainInv dueFirstB ∧ dueFirstB.compbDue = true ∧ dueFirstB.cursor ≠ dueFirstB.endIndex) ∧
    (ChainInv (dueB t1 0) ∧ (dueB t1 0).compbDue = true ∧ (dueB t1 0).cursor = (dueB t1 0).endIndex) ∧
    (ChainInv (dueB t1 3) ∧ (dueB t1 3).compbDue = true) ∧ (4#8).toNat ≤ 4 := by
  refine ⟨⟨by decide, by decide, by decide, .inl (by decide)⟩, ⟨by decide, by decide, by decide, .inl (by decide)⟩,
    ⟨{ awaiting with mode := .external, extIe := true },
      ⟨by constructor <;> decide, by constructor <;> decide⟩, by decide, by decide, by decide, .inl (by decide)⟩,
    ⟨dueA_chain, by decide⟩, ⟨dueFirstB_chain, by decide⟩, ⟨dueB_chain, by decide⟩, ⟨dueLastB_chain, by decide⟩, by decide⟩
theorem witness_WaveformLaw :
    (start t1).fault = none ∧ (start t1).ifa = false ∧
    (start t1).ifb = false ∧ (start t1).irOut = false ∧ (start t1).table.countOf 0 ≠ 0#8 ∧
    1 ≤ 65535 ∧ slotTicks (start t1).table 0 = 180 := by decide
theorem witness_FrameLaw :
    (ChainInv (start t1) ∧ (start t1).fault = none ∧ (start t1).run = false ∧
      (start t1).table.countOf (start t1).nextEye.openingSlot ≠ 0#8) ∧
    (start t4).table.countOf (start t4).nextEye.openingSlot = 0#8 :=
  ⟨⟨reset_chain, by decide⟩, by decide⟩
theorem witness_FrameLaw_empty : ChainInv (start t4) ∧ ChainInv (start t2) :=
  ⟨⟨by constructor <;> decide, by constructor <;> decide⟩,
    ⟨by constructor <;> decide, by constructor <;> decide⟩⟩
theorem witness_StageAndStartFrame :
    awaiting.run = true ∧
    ((start t4).run = false ∧ (start t4).table.countOf (start t4).nextEye.openingSlot = 0#8) ∧
    (start t1).run = false ∧ (start t1).table.countOf (start t1).nextEye.openingSlot ≠ 0#8 := by decide
/-- Levels, edges and modes of the rule's four clauses. -/
theorem witness_SyncinRule :
    (false = (start t1).syncIn ∧ (start t1).extIe = false ∧ (start t1).mode.requiresExternal = false) ∧
    (true ≠ (inMode t1 .external).syncIn ∧ (inMode t1 .external).extIe = true ∧
      (inMode t1 .external).mode = .external) ∧
    (true ≠ (inMode t1 .combined).syncIn ∧ (inMode t1 .combined).extIe = true ∧
      (inMode t1 .combined).mode = .combined ∧ (inMode t1 .combined).synced = false) ∧
    (performed (.pkt 0xAA 0x01) (inMode t1 .combined)).synced = true ∧
    (performed (.pkt 0xAA 0x01) (inMode t1 .combined)).extIe = true := by decide
theorem witness_PktRule :
    (0x55#8 ≠ (start t1).params.hostMarker) ∧
    ((start t1).mode ≠ .driver ∧ (start t1).mode ≠ .combined) ∧
    (0xAA#8 = (inMode t1 .driver).params.hostMarker ∧ (inMode t1 .driver).mode = .driver) ∧
    (0xAA#8 = (inMode t1 .combined).params.hostMarker ∧ (inMode t1 .combined).mode = .combined) := by decide
/-- The threshold and the last value below it, and the largest elapsed time. -/
theorem witness_PollfRule :
    (∃ s : State, (8 : Nat) < 2 ^ 32 ∧ s.ms = s.lastFrameTime + BitVec.ofNat 32 8 ∧ s.mode = .freerun ∧
      8 < s.params.freerunPeriodMs) ∧
    (∃ s : State, (4294967295 : Nat) < 2 ^ 32 ∧ s.ms = s.lastFrameTime + BitVec.ofNat 32 4294967295 ∧ s.mode ≠ .freerun) ∧
    ∃ s : State, (9 : Nat) < 2 ^ 32 ∧ s.ms = s.lastFrameTime + BitVec.ofNat 32 9 ∧ s.mode = .freerun ∧
      s.params.freerunPeriodMs ≤ 9 :=
  ⟨⟨{ inMode t1 .freerun with ms := 8 }, by decide⟩, ⟨{ start t1 with lastFrameTime := 1, ms := 0 }, by decide⟩,
    ⟨{ inMode t1 .freerun with ms := 9 }, by decide⟩⟩
theorem witness_PolllRule :
    (∃ s : State, (199 : Nat) < 2 ^ 32 ∧ s.ms = s.lastFrameTime + BitVec.ofNat 32 199 ∧ s.active = true ∧
      199 < s.params.timeoutMs) ∧
    (∃ s : State, (200 : Nat) < 2 ^ 32 ∧ s.ms = s.lastFrameTime + BitVec.ofNat 32 200 ∧ s.active = false) ∧
    ∃ s : State, (200 : Nat) < 2 ^ 32 ∧ s.ms = s.lastFrameTime + BitVec.ofNat 32 200 ∧ s.active = true ∧
      s.params.timeoutMs ≤ 200 :=
  ⟨⟨{ start t1 with active := true, lastFrameTime := 1000, ms := 1199 }, by decide⟩,
    ⟨{ start t1 with lastFrameTime := 1000, ms := 1200 }, by decide⟩,
    ⟨{ start t1 with active := true, lastFrameTime := 1000, ms := 1200 }, by decide⟩⟩
theorem witness_ModeRule : 4 < (5#8).toNat ∧ 4#8 = Mode.freerun.code ∧ 0#8 = Mode.none.code := by decide
/-- Each trigger, and both a present and an absent opening slot. -/
theorem witness_AuthorizedTriggerStartsAFrame :
    (AuthorizesFrame (.syncin true) (inMode t1 .external) ∧ (inMode t1 .external).run = false) ∧
    (AuthorizesFrame (.pkt 0xAA 0x01) (inMode t1 .driver) ∧ (inMode t1 .driver).run = false) ∧
    (AuthorizesFrame .pollf { inMode t4 .freerun with ms := 9 } ∧ (inMode t4 .freerun).run = false) ∧
    tableT1.countOf Eye.left.openingSlot ≠ 0#8 ∧ tableT4.countOf Eye.right.openingSlot = 0#8 := by
  refine ⟨⟨⟨by decide, by decide, .inl (by decide)⟩, by decide⟩, ⟨⟨by decide, by decide⟩, by decide⟩,
    ⟨⟨by decide, by decide⟩, by decide⟩, by decide⟩
theorem witness_FrameOverlapExactlyOnOverlap :
    ∃ t, awaiting.fault ≠ some .frameOverlap ∧
      exec (.pkt 0xAA 0) { awaiting with mode := .driver } = .next t ∧ t.fault = some .frameOverlap :=
  ⟨_, by decide, rfl, rfl⟩
theorem witness_OneTriggerKindPerMode :
    ∃ t, exec (.syncin true) (inMode t1 .external) = .next t ∧ t.currentEye ≠ (inMode t1 .external).currentEye ∧
      t.active = true :=
  ⟨_, rfl, by decide, by decide⟩
theorem witness_OneTriggerKindPerMode_time :
    ∃ t, exec .pollf { inMode t1 .freerun with ms := 9, active := true } = .next t ∧ t.lastFrameTime ≠ 0 :=
  ⟨_, rfl, by decide⟩
/-- The rows of R127's table, in its order. -/
theorem witness_IgnoredConditionsChangeNothing :
    (inMode t1 .external).mode = .external ∧ 0x55#8 ≠ awaiting.params.hostMarker ∧
    ((inMode t1 .driver).extIe = (inMode t1 .driver).mode.requiresExternal ∧
      (inMode t1 .driver).mode = .driver) ∧
    State.elapsedMs { inMode t1 .freerun with ms := 8 } < awaiting.params.freerunPeriodMs ∧
    State.elapsedMs { start t1 with ms := 199 } < awaiting.params.timeoutMs ∧
    (start t4).table.countOf 0 = 0#8 ∧ 4 < (5#8).toNat ∧
    awaiting.fault = none ∧ awaiting.dueEvent = none := by decide
theorem witness_StagedEyeIsTheNextFramesEye : (start t1).run = false := by decide
theorem witness_FreerunAlternatesTheEye :
    ∃ t v : State,
      let s : State := { inMode t4 .freerun with ms := 9, currentEye := .left }
      let u : State := { t with ms := 18 }
      s.mode = .freerun ∧ s.params.freerunPeriodMs ≤ s.elapsedMs ∧ s.run = false ∧ exec .pollf s = .next t ∧
      u.mode = t.mode ∧ u.params = t.params ∧ u.currentEye = t.currentEye ∧ u.run = false ∧
      u.params.freerunPeriodMs ≤ u.elapsedMs ∧ exec .pollf u = .next v ∧ v.currentEye = .left :=
  ⟨_, _, by decide, by decide, by decide, rfl, rfl, rfl, rfl, by decide, by decide, rfl, by decide⟩
theorem witness_CombinedEdgesAlternatelyStageAndStart :
    (inMode t1 .combined).mode = .combined ∧ (inMode t1 .combined).extIe = true ∧
    (inMode t1 .combined).synced = false ∧ (inMode t1 .combined).run = false ∧
    (inMode t1 .combined).params.combinedEdgeStartsUnstaged = false := by decide
/-- The frame's last falling edge in mode `EXTERNAL`. -/
theorem witness_OrderOfEdgeAndLastHandlerMatters :
    ∃ s : State, ChainInv s ∧ s.fault = none ∧ s.compbDue = true ∧ s.cursor = s.endIndex ∧ s.currentToken.toNat % 2 = 1 ∧
      s.mode = .external ∧ true ≠ s.syncIn :=
  ⟨{ dueB t1 3 with mode := .external, extIe := true },
    ⟨by constructor <;> decide, by constructor <;> decide⟩, by decide⟩
theorem witness_SwapDoesNotEnterFreerun :
    ∃ t, (inMode t1 .freerun).mode = .freerun ∧
      exec .pollf { inMode t1 .freerun with ms := 9 } = .next t ∧ t.currentEye = .left := ⟨_, rfl, rfl, rfl⟩
theorem witness_OnlyWriters :
    (∃ t, exec .compa dueA = .next t ∧ t.ocrb ≠ dueA.ocrb ∧ t.irOut = true) ∧
    (∃ t, exec (.syncin true) (inMode t1 .external) = .next t ∧ t.ocra ≠ 0) ∧
    ∃ t, exec .compa { dueA with cursor := 10 } = .next t ∧ t.fault ≠ dueA.fault :=
  ⟨⟨_, rfl, by decide, by decide⟩, ⟨_, rfl, by decide⟩, ⟨_, rfl, by decide⟩⟩
theorem witness_OutputsShowThePhase : ChainInv (dueB t1 0) ∧ (dueB t1 0).phase = .transmittingMark :=
  ⟨dueB_chain, by decide⟩
theorem witness_ServiceLeavesNoHandlerDue : (service dueA).fault = none ∧ dueA.dueEvent = some .compa := by decide
theorem witness_EagerStepsAreTicks :
    ∃ s : State, ChainInv s ∧ s.fault = none ∧ s.schedule = .eager ∧ s.trace = List.replicate 2 (encode .tick) :=
  ⟨{ dueA with trace := [0x010000#24, 0x010000#24] },
    ⟨by constructor <;> decide, by constructor <;> decide⟩, rfl, rfl, by decide⟩
/-- One tick after the first of two, the marks of token 0 of T1 as 41_pulse_cursor.md R84 counts them from a delay of 1. -/
theorem test_waveform_begins :
    (ticks 0 (beginToken 0 1 (start t1))).irOut = false ∧ (ticks 1 (beginToken 0 1 (start t1))).irOut = true ∧
    (ticks 2 (beginToken 0 1 (start t1))).irOut = true := by decide

end Sys2Proof.Tests
end

section
/-! The engine's frame and the chain invariant (10_state.md R35): the family 10_state.md of the obligations. -/

namespace Sys2Proof.Machine

/-! ### The part of the state that the chain invariant speaks of -/

/-- `t` agrees with `s` on the Pulse Cursor, the timer, the output registers, and on the mode, the edge enable and the
parameters, which R35 relates to them. -/
structure SameEngine (s t : State) : Prop where
  currentToken : t.currentToken = s.currentToken
  cursor : t.cursor = s.cursor
  endIndex : t.endIndex = s.endIndex
  cnt : t.cnt = s.cnt
  ocra : t.ocra = s.ocra
  ocrb : t.ocrb = s.ocrb
  run : t.run = s.run
  iea : t.iea = s.iea
  ieb : t.ieb = s.ieb
  ifa : t.ifa = s.ifa
  ifb : t.ifb = s.ifb
  irOut : t.irOut = s.irOut
  statusFrame : t.statusFrame = s.statusFrame
  mode : t.mode = s.mode
  extIe : t.extIe = s.extIe
  params : t.params = s.params

/-- What an operation that answers `t` did to the engine: nothing, or one of its writers, a frame start among them only if
its opening slot is present. -/
inductive EngineDid (i : Instr) (s t : State) : Prop where
  | kept (h : SameEngine s t)
  | ticked (hi : i = .tick) (ha : s.compaDue = false) (hb : s.compbDue = false) (h : t = tickTimer s)
  | rose (hi : i = .compa) (hd : s.compaDue = true) (h : t = risingEdge s)
  | fell (hi : i = .compb) (hd : s.compbDue = true) (h : t = fallingEdge s)
  | selected (c : Byte) (m : Mode) (hi : i = .mode c) (h : t = selectMode m s)
  | began (ha : AuthorizesFrame i s) (hr : s.run = false) (r : State) (e : SameEngine s r)
      (tok : TokenIndex) (d : Nat) (hp : r.table.countOf tok ≠ 0#8) (h : t = beginToken tok d r)

/-- A frame start from a state with the engine of `s`: a fault or an absent opening slot leaves the engine alone. -/
theorem engineDid_startFrame {i : Instr} {s r : State} (ha : AuthorizesFrame i s) (e : SameEngine s r) :
    EngineDid i s (startFrame r) := by
  cases hr : r.run with
  | true => rw [startFrame_overlap hr]; exact .kept { e with }
  | false =>
    rw [startFrame_idle hr]
    generalize hq : ({ r with active := true, currentEye := r.nextEye, lastFrameTime := r.ms, synced := false } : State) = q
    have eq : SameEngine s q := by subst hq; exact { e with }
    by_cases hp : q.table.countOf r.nextEye.openingSlot = 0#8
    · rw [beginToken_absent hp]; exact .kept eq
    · exact .began ha (e.run ▸ hr) q eq _ _ hp rfl

theorem engineDid_of_exec {i : Instr} {s t : State} (h : exec i s = .next t) : EngineDid i s t := by
  cases did_of_exec h with
  | nothing h => subst h; exact .kept (by constructor <;> rfl)
  | ticked hi ha hb h => exact .ticked hi ha hb h
  | clocked hi h => subst h; exact .kept (by constructor <;> rfl)
  | rose hi hd h => exact .rose hi hd h
  | fell hi hd h => exact .fell hi hd h
  | recorded l hi h => subst h; exact .kept (by constructor <;> rfl)
  | selected c m hi hc h => exact .selected c m hi h
  | swapped hi h => subst h; exact .kept (by constructor <;> rfl)
  | expired hi h => subst h; exact .kept (by constructor <;> rfl)
  | staged e l hm hi h => subst h; exact .kept (by constructor <;> rfl)
  | started e l b ha hi r hr h =>
    subst h; exact engineDid_startFrame ha (by subst hr; constructor <;> rfl)

/-! ### What the operations leave of the engine -/

theorem tickTimer_keeps_ifa {s : State} (h : s.ifa = true) : (tickTimer s).ifa = true := by
  unfold tickTimer; split <;> simp [flagAfterMatch, h]

theorem tickTimer_keeps_ifb {s : State} (h : s.ifb = true) : (tickTimer s).ifb = true := by
  unfold tickTimer; split <;> simp [flagAfterMatch, h]

theorem beginToken_cnt_of_run {t : TokenIndex} {d : Nat} {s : State} (h : s.run = true) :
    (beginToken t d s).cnt = s.cnt := by
  by_cases hp : s.table.countOf t = 0#8
  · rw [beginToken_absent hp]
  · simp [beginToken_present hp, h]

theorem endOfToken_cnt_of_run {s : State} (h : s.run = true) : (endOfToken s).cnt = s.cnt := by
  obtain ⟨-, -, e⟩ | ⟨-, e⟩ := endOfToken_cases s <;> rw [e]
  · exact beginToken_cnt_of_run h
  · rfl

@[simp] theorem endOfToken_ieb (s : State) : (endOfToken s).ieb = false := by
  obtain ⟨-, hp, e⟩ | ⟨-, e⟩ := endOfToken_cases s <;> rw [e]
  · rw [beginToken_present (s := { s with ieb := false }) hp]
  · rfl

/-! ### What a frame start does to the staging and to `active` -/

theorem startFrame_keeps_unstaged {s : State} (h : s.synced = false) : (startFrame s).synced = false := by
  cases hr : s.run with
  | true => simpa [startFrame_overlap hr] using h
  | false => simp [startFrame_idle hr]

theorem startFrame_keeps_active {s : State} (h : s.active = true) : (startFrame s).active = true := by
  cases hr : s.run with
  | true => simpa [startFrame_overlap hr] using h
  | false => simp [startFrame_idle hr]

/-! ### States that meet the chain invariant -/

theorem ChainInv.of_sameEngine {s t : State} (h : ChainInv s) (e : SameEngine s t) : ChainInv t := by
  obtain ⟨⟨⟩, ⟨⟩⟩ := h
  constructor <;> constructor <;>
    simp only [State.table, e.currentToken, e.cursor, e.endIndex, e.cnt, e.ocra, e.ocrb, e.run, e.iea, e.ieb, e.ifa,
      e.ifb, e.irOut, e.statusFrame, e.mode, e.extIe, e.params] <;>
    assumption

/-- With the timer stopped and everything cleared, only (I8) is left to meet. -/
theorem chainInv_of_stopped {s : State} (hrun : s.run = false) (hiea : s.iea = false) (hieb : s.ieb = false)
    (hifa : s.ifa = false) (hifb : s.ifb = false) (hir : s.irOut = false) (hst : s.statusFrame = false)
    (hx : s.extIe = s.mode.requiresExternal) : ChainInv s := by
  constructor <;> constructor <;> simp [hrun, hiea, hieb, hifa, hifb, hir, hst, hx]

/-- The first sample index after a present slot does not wrap (20_memory.md R42 WF1, WF3). -/
theorem toNat_startOf_add_countOf {s : State} {t : TokenIndex} (hp : s.table.countOf t ≠ 0#8) :
    (s.table.startOf t + s.table.countOf t).toNat = (s.table.startOf t).toNat + (s.table.countOf t).toNat := by
  obtain ⟨hle, h255, -, -⟩ := Table.slot_of_wf (Params.table_wf s.registered) hp
  simp only [State.table] at *
  rw [BitVec.toNat_add, Nat.mod_eq_of_lt (by omega)]

/-- A present slot begins at its start with channel A armed, over whatever chain stood before. -/
theorem chainInv_beginToken {t : TokenIndex} {d : Nat} {s : State} (hp : s.table.countOf t ≠ 0#8)
    (hifa : s.ifa = false) (hifb : s.ifb = false) (hir : s.irOut = false)
    (hx : s.extIe = s.mode.requiresExternal) : ChainInv (beginToken t d s) := by
  have hend := toNat_startOf_add_countOf hp
  rw [beginToken_present hp]
  constructor
  · constructor <;> simp [hifa, hifb, hir, hx]
  · constructor <;> simp [-BitVec.toNat_add, hp, hend]

theorem chainInv_endOfToken {s : State} (hifa : s.ifa = false) (hifb : s.ifb = false) (hir : s.irOut = false)
    (hx : s.extIe = s.mode.requiresExternal) : ChainInv (endOfToken s) := by
  obtain ⟨-, hp, e⟩ | ⟨-, e⟩ := endOfToken_cases s <;> rw [e]
  · exact chainInv_beginToken hp hifa hifb hir hx
  · exact chainInv_of_stopped rfl rfl rfl hifa hifb hir rfl hx

/-! ### What the chain invariant gives -/

theorem EngineInv.run_of_iea {s : State} (h : EngineInv s) (ha : s.iea = true) : s.run = true := by
  by_contra hr
  simp [h.idleUnarmed (by simpa using hr)] at ha

theorem EngineInv.run_of_ieb {s : State} (h : EngineInv s) (hb : s.ieb = true) : s.run = true := by
  by_contra hr
  simp [h.idleUnarmed (by simpa using hr)] at hb

theorem EngineInv.channelB_clear {s : State} (h : EngineInv s) (ha : s.iea = true) : s.ieb = false ∧ s.ifb = false := by
  have hb : s.ieb = false := by simpa [ha] using h.notBothArmed
  exact ⟨hb, by simpa [hb] using h.pendingB⟩

theorem EngineInv.channelA_clear {s : State} (h : EngineInv s) (hb : s.ieb = true) : s.iea = false ∧ s.ifa = false := by
  have ha : s.iea = false := by simpa [hb] using h.notBothArmed
  exact ⟨ha, by simpa [ha] using h.pendingA⟩

theorem EngineInv.stopped {s : State} (h : EngineInv s) (hr : s.run = false) :
    s.ifa = false ∧ s.ifb = false ∧ s.irOut = false := by
  obtain ⟨ha, hb⟩ := h.idleUnarmed hr
  exact ⟨by simpa [ha] using h.pendingA, by simpa [hb] using h.pendingB, h.markIsArmedB.trans hb⟩

/-- Under (I3) a channel whose handler is not due has no flag pending. -/
theorem EngineInv.flags_clear {s : State} (h : EngineInv s) (ha : s.compaDue = false) (hb : s.compbDue = false) :
    s.ifa = false ∧ s.ifb = false :=
  ⟨Bool.eq_false_iff.mpr fun hf => by simp [State.compaDue, hf, h.pendingA hf] at ha,
    Bool.eq_false_iff.mpr fun hf => by simp [State.compbDue, hf, h.pendingB hf] at hb⟩

/-- Inside the slot there is a sample, and the cursor does not wrap behind it (20_memory.md R47). -/
theorem ChainInv.sample_at_cursor {s : State} (h : ChainInv s) (hr : s.run = true)
    (hlt : s.cursor.toNat < s.endIndex.toNat) :
    (∃ v, s.table.sampleAt s.cursor = some v) ∧ (s.cursor + 1#8).toNat = s.cursor.toNat + 1 := by
  obtain ⟨hle, h255, -, -⟩ := Table.slot_of_wf (Params.table_wf s.registered) (h.cursor.present hr)
  have hend := h.cursor.endIs hr
  simp only [State.table] at hend
  refine ⟨⟨_, List.getElem?_eq_getElem (by simp only [State.table]; omega)⟩, ?_⟩
  rw [BitVec.toNat_add, Nat.mod_eq_of_lt (by simp; omega)]; rfl

/-- An odd number of samples is never consumed with an even number of them, so the slot's end is not reached while the
rising edge is awaited (41_pulse_cursor.md R84). -/
theorem ChainInv.cursor_lt_of_iea {s : State} (h : ChainInv s) (ha : s.iea = true) :
    s.cursor.toNat < s.endIndex.toNat := by
  have hr := h.engine.run_of_iea ha
  obtain ⟨-, -, hodd, -⟩ := Table.slot_of_wf (Params.table_wf s.registered) (h.cursor.present hr)
  have hend := h.cursor.endIs hr
  have hle := h.cursor.startLe hr
  have hce := h.cursor.cursorLe hr
  have hev := h.cursor.parityA ha
  simp only [State.table] at *
  omega

/-! ### The writers of the engine keep the chain invariant -/

theorem ChainInv.after_tickTimer {s : State} (h : ChainInv s) (ha : s.compaDue = false) (hb : s.compbDue = false) :
    ChainInv (tickTimer s) := by
  obtain ⟨hifa, hifb⟩ := h.engine.flags_clear ha hb
  cases hr : s.run with
  | false => rwa [tickTimer_stopped hr]
  | true =>
    rw [tickTimer_running hr]
    constructor
    · exact { h.engine with
        pendingA := by simp +contextual [flagAfterMatch, hifa]
        pendingB := by simp +contextual [flagAfterMatch, hifb]
        matchedA := by simp [flagAfterMatch, hifa]
        matchedB := by simp [flagAfterMatch, hifb] }
    · exact { h.cursor with }

theorem ChainInv.after_risingEdge {s : State} (h : ChainInv s) (hd : s.compaDue = true) : ChainInv (risingEdge s) := by
  simp only [State.compaDue, Bool.and_eq_true] at hd
  have hr := h.engine.run_of_iea hd.2
  obtain ⟨hieb, hifb⟩ := h.engine.channelB_clear hd.2
  have hlt := h.cursor_lt_of_iea hd.2
  obtain ⟨⟨v, hv⟩, hnext⟩ := h.sample_at_cursor hr hlt
  have hle := h.cursor.startLe hr
  have hev := h.cursor.parityA hd.2
  obtain ⟨hn, -⟩ | ⟨w, -, e⟩ := risingEdge_cases s
  · simp [hv] at hn
  rw [e]
  constructor
  · constructor <;> simp [hr, hifb, h.engine.statusIsRun, h.engine.edgeEnable]
  · exact { h.cursor with
      startLe := fun _ => by simp only [State.table] at *; omega
      cursorLe := fun _ => by simp only; omega
      parityA := nofun
      parityB := fun _ => by simp only [State.table] at *; omega }

theorem ChainInv.after_fallingEdge {s : State} (h : ChainInv s) (hd : s.compbDue = true) : ChainInv (fallingEdge s) := by
  simp only [State.compbDue, Bool.and_eq_true] at hd
  have hr := h.engine.run_of_ieb hd.2
  obtain ⟨hiea, hifa⟩ := h.engine.channelA_clear hd.2
  obtain ⟨-, e⟩ | hne := fallingEdge_cases s
  · rw [e]; exact chainInv_endOfToken hifa rfl rfl h.engine.edgeEnable
  have hc : s.cursor ≠ s.endIndex := hne.elim And.left And.left
  have hlt : s.cursor.toNat < s.endIndex.toNat :=
    (h.cursor.cursorLe hr).lt_of_ne (BitVec.toNat_ne_iff_ne.mpr hc)
  obtain ⟨⟨v, hv⟩, hnext⟩ := h.sample_at_cursor hr hlt
  obtain ⟨-, hn, -⟩ | ⟨-, w, -, e⟩ := hne
  · simp [hv] at hn
  have hle := h.cursor.startLe hr
  have hod := h.cursor.parityB hd.2
  rw [e]
  constructor
  · constructor <;> simp [hr, hifa, h.engine.statusIsRun, h.engine.edgeEnable]
  · exact { h.cursor with
      startLe := fun _ => by simp only [State.table] at *; omega
      cursorLe := fun _ => by simp only; omega
      parityA := fun _ => by simp only [State.table] at *; omega
      parityB := nofun }

/-- A stopped chain leaves nothing pending, so a present slot may begin. -/
theorem ChainInv.beginToken_of_stopped {r : State} (h : ChainInv r) (hr : r.run = false) {tok : TokenIndex} {d : Nat}
    (hp : r.table.countOf tok ≠ 0#8) : ChainInv (beginToken tok d r) := by
  obtain ⟨hifa, hifb, hir⟩ := h.engine.stopped hr
  exact chainInv_beginToken hp hifa hifb hir h.engine.edgeEnable

/-- Every operation keeps R35, fault or no fault. -/
theorem ChainInv.of_exec {i : Instr} {s t : State} (h : ChainInv s) (hx : exec i s = .next t) : ChainInv t := by
  cases engineDid_of_exec hx with
  | kept e => exact h.of_sameEngine e
  | ticked hi ha hb ht => exact ht ▸ h.after_tickTimer ha hb
  | rose hi hd ht => exact ht ▸ h.after_risingEdge hd
  | fell hi hd ht => exact ht ▸ h.after_fallingEdge hd
  | selected c m hi ht => exact ht ▸ chainInv_of_stopped rfl rfl rfl rfl rfl rfl rfl rfl
  | began ha hr r e tok d hp ht => exact ht ▸ (h.of_sameEngine e).beginToken_of_stopped (e.run.trans hr) hp

theorem ChainInv.with_trace {s : State} (h : ChainInv s) (rest : List OpWord) : ChainInv { s with trace := rest } :=
  h.of_sameEngine (by constructor <;> rfl)

/-! ### The obligations -/

/-- Settles O4: an operation keeps the invariant by its case of `EngineDid`, and the list of words is no part of it. -/
theorem stepKeepsTheChainInvariant : Obligations.StepKeepsTheChainInvariant := by
  intro s t h hs
  obtain ⟨-, ⟨i, rest, hx⟩ | ⟨rest, rfl⟩⟩ := step_next_cases hs
  · exact (h.with_trace rest).of_exec hx
  · exact h.with_trace rest

/-- Settles O3: after reset the timer is stopped, nothing is pending and nothing is staged. -/
theorem invariantsHoldAtReset : Obligations.InvariantsHoldAtReset := fun _ _ =>
  ⟨chainInv_of_stopped rfl rfl rfl rfl rfl rfl rfl rfl, nofun⟩

/-- Settles O50, by the writers of the engine. -/
theorem onlyWritersOfTheEngineElements : Obligations.OnlyWritersOfTheEngineElements := by
  intro i s t hx
  cases engineDid_of_exec hx with
  | kept e =>
    simp +contextual [e.currentToken, e.cursor, e.endIndex, e.cnt, e.ocra, e.ocrb, e.run, e.iea, e.ieb, e.ifa, e.ifb,
      e.irOut, e.statusFrame]
  | ticked hi ha hb ht =>
    subst hi ht
    simp +contextual [tickTimer_keeps_ifa, tickTimer_keeps_ifb]
  | rose hi hd ht =>
    subst hi ht
    obtain ⟨-, e⟩ | ⟨v, -, e⟩ := risingEdge_cases s <;> rw [e] <;> simp +contextual
  | fell hi hd ht =>
    subst hi ht
    obtain ⟨-, e⟩ | ⟨-, -, e⟩ | ⟨-, v, -, e⟩ := fallingEdge_cases s <;> rw [e]
    · have hcnt : (endOfToken { s with ifb := false, irOut := false }).cnt ≠ s.cnt → s.run = false :=
        fun hne => Bool.eq_false_iff.mpr fun hr => hne (endOfToken_cnt_of_run hr)
      simpa +contextual using hcnt
    · simp +contextual
    · simp +contextual
  | selected c m hi ht =>
    subst hi ht
    simp +contextual
  | began ha hr r e tok d hp ht =>
    subst ht
    simp +contextual [beginToken_present hp, ha, hr, e.ocrb, e.ifa, e.ifb, e.irOut]

/-- Settles O49, by what each operation did; only a frame start needs a look at the faulting and the starting branch. -/
theorem onlyWritersOfTheArbiterElements : Obligations.OnlyWritersOfTheArbiterElements := by
  intro i s t hx
  cases did_of_exec hx with
  | nothing h => subst h; simp +contextual
  | ticked hi ha hb h => subst h; simp +contextual
  | clocked hi h => subst h; simp +contextual [hi]
  | rose hi hd h =>
    subst h
    obtain ⟨-, e⟩ | ⟨v, -, e⟩ := risingEdge_cases s <;> rw [e] <;> simp +contextual
  | fell hi hd h =>
    subst h
    obtain ⟨-, e⟩ | ⟨-, -, e⟩ | ⟨-, v, -, e⟩ := fallingEdge_cases s <;> rw [e] <;> simp +contextual
  | recorded l hi h => subst h; simp +contextual [hi]
  | selected c m hi hc h => subst h; simp +contextual [hi]
  | swapped hi h => subst h; simp +contextual [hi]
  | expired hi h => subst h; simp +contextual [hi]
  | staged e l hm hi h =>
    subst h
    obtain hi | ⟨hi, hl⟩ := hi
    · simp +contextual [hi]
    · simp +contextual [hi, hl]
  | started e l b ha hi r hr h =>
    subst h hr
    obtain rfl | ⟨⟨m, sel, rfl⟩ | ⟨rfl, rfl⟩, rfl⟩ := hi
    · simp +contextual [ha, startFrame_keeps_active]
    · simp +contextual [ha, startFrame_keeps_active]
    · simp +contextual [ha, startFrame_keeps_active, startFrame_keeps_unstaged]

end Sys2Proof.Machine
end

section
/-! The table and its parameters (20_memory.md R41 to R54): the family 20_memory.md of the obligations. -/

namespace Sys2Proof

/-! ### Registration -/

/-- All entries of a slice that lies within a list satisfy `P`, said by index. -/
theorem forall_mem_slice_iff {α : Type} {P : α → Prop} {l : List α} {a n : Nat} (hl : a + n ≤ l.length) :
    (∀ v ∈ (l.drop a).take n, P v) ↔ ∀ j, a ≤ j → j < a + n → ∃ v, l[j]? = some v ∧ P v := by
  constructor
  · intro h j haj hj
    have hv : l[j]? = some l[j] := List.getElem?_eq_getElem (by omega)
    refine ⟨l[j], hv, h _ (List.mem_iff_getElem?.mpr ⟨j - a, ?_⟩)⟩
    rw [List.getElem?_take_of_lt (by omega), List.getElem?_drop, Nat.add_sub_of_le haj, hv]
  · intro h v hv
    obtain ⟨k, hk, rfl⟩ := List.mem_iff_getElem.mp hv
    simp only [List.length_take, List.length_drop] at hk
    obtain ⟨w, hw, hP⟩ := h (a + k) (by omega) (by omega)
    rw [List.getElem?_eq_getElem (by omega)] at hw
    simpa [Option.some.inj hw] using hP

/-- The check of one slot: an absent slot passes, a present one by WF1, WF2 and WF4 (20_memory.md R42). -/
theorem Table.slot_check_iff (T : Table) (t : TokenIndex) :
    (T.wf1 t && T.wf2 t && T.wf4 t) = true ↔
      (T.countOf t ≠ 0#8 →
        (T.startOf t).toNat + (T.countOf t).toNat ≤ T.samples.length ∧
        (T.countOf t).toNat % 2 = 1 ∧
        ∀ v ∈ (T.samples.drop (T.startOf t).toNat).take (T.countOf t).toNat, 1 ≤ v.toNat ∧ v.toNat ≤ 32767) := by
  by_cases hp : T.countOf t = 0#8
  · simp [Table.wf1, Table.wf2, Table.wf4, hp]
  · simp [Table.wf1, Table.wf2, Table.wf4, hp, and_assoc]

theorem Table.wf_iff (T : Table) :
    T.wf = true ↔ T.samples.length ≤ 255 ∧ ∀ t, (T.wf1 t && T.wf2 t && T.wf4 t) = true := by
  simp only [Table.wf, Table.wf3, Bool.and_eq_true, decide_eq_true_eq, List.all_eq_true, mem_tokenIndices, true_imp_iff]

/-- Settles O9: slot by slot, with WF4 said by index, which WF1 allows. -/
theorem wellFormedTableMeetsWF1ToWF4 : Obligations.WellFormedTableMeetsWF1ToWF4 := by
  intro T
  rw [T.wf_iff]
  refine and_congr_right fun _ => forall_congr' fun t => (T.slot_check_iff t).trans ?_
  exact imp_congr_right fun _ => and_congr_right fun hle => and_congr_right fun _ => forall_mem_slice_iff hle

end Sys2Proof

namespace Sys2Proof.Machine

/-! ### Nothing writes the parameters -/

@[simp] theorem risingEdge_params (s : State) : (risingEdge s).params = s.params := by
  obtain ⟨-, e⟩ | ⟨v, -, e⟩ := risingEdge_cases s <;> rw [e]
  rfl

@[simp] theorem fallingEdge_params (s : State) : (fallingEdge s).params = s.params := by
  obtain ⟨-, e⟩ | ⟨-, -, e⟩ | ⟨-, v, -, e⟩ := fallingEdge_cases s <;> rw [e]
  · exact endOfToken_params _
  · rfl

theorem params_of_exec {i : Instr} {s t : State} (h : exec i s = .next t) : t.params = s.params := by
  cases engineDid_of_exec h with
  | kept e => exact e.params
  | ticked hi ha hb ht => exact ht ▸ tickTimer_params s
  | rose hi hd ht => exact ht ▸ risingEdge_params s
  | fell hi hd ht => exact ht ▸ fallingEdge_params s
  | selected c m hi ht => exact ht ▸ selectMode_params m s
  | began ha hr r e tok d hp ht => exact ht ▸ (beginToken_params tok d r).trans e.params

theorem params_of_step {s t : State} (h : step s = .next t) : t.params = s.params := by
  obtain ⟨-, ⟨i, rest, hx⟩ | ⟨rest, rfl⟩⟩ := step_next_cases h
  · exact (params_of_exec hx).trans rfl
  · rfl

/-- Settles O8: the table read is the one that the parameters select, and nothing writes them. -/
theorem tableIsNeverWritten : Obligations.TableIsNeverWritten := by
  refine ⟨fun _ _ _ => params_of_exec, fun s t h => ?_⟩
  have hp := params_of_step h
  simp [hp]

/-! ### No operation reads outside the table -/

theorem startFrame_fault_cases (s : State) :
    (startFrame s).fault = s.fault ∨ (startFrame s).fault = some .frameOverlap := by
  cases hr : s.run with
  | true => exact .inr (by rw [startFrame_overlap hr]; rfl)
  | false => exact .inl (by simp [startFrame_idle hr])

/-- Under R35 a rising edge that is due finds its sample. -/
theorem ChainInv.risingEdge_fault {s : State} (h : ChainInv s) (hd : s.compaDue = true) :
    (risingEdge s).fault = s.fault := by
  simp only [State.compaDue, Bool.and_eq_true] at hd
  obtain ⟨⟨v, hv⟩, -⟩ := h.sample_at_cursor (h.engine.run_of_iea hd.2) (h.cursor_lt_of_iea hd.2)
  obtain ⟨hn, -⟩ | ⟨w, -, e⟩ := risingEdge_cases s
  · simp [hv] at hn
  · rw [e]

/-- Under R35 a falling edge that is due ends the token or finds its sample. -/
theorem ChainInv.fallingEdge_fault {s : State} (h : ChainInv s) (hd : s.compbDue = true) :
    (fallingEdge s).fault = s.fault := by
  simp only [State.compbDue, Bool.and_eq_true] at hd
  have hr := h.engine.run_of_ieb hd.2
  obtain ⟨-, e⟩ | ⟨hc, hn, -⟩ | ⟨-, w, -, e⟩ := fallingEdge_cases s
  · rw [e]; exact endOfToken_fault _
  · obtain ⟨⟨v, hv⟩, -⟩ :=
      h.sample_at_cursor hr ((h.cursor.cursorLe hr).lt_of_ne (BitVec.toNat_ne_iff_ne.mpr hc))
    simp [hv] at hn
  · rw [e]

/-- Under R35 the one fault that an operation can raise is the frame overlap (60_exceptions.md R126). -/
theorem ChainInv.fault_of_exec {i : Instr} {s t : State} (h : ChainInv s) (hx : exec i s = .next t) :
    t.fault = s.fault ∨ t.fault = some .frameOverlap := by
  cases did_of_exec hx with
  | nothing ht => exact .inl (ht ▸ rfl)
  | ticked hi ha hb ht => exact .inl (ht ▸ tickTimer_fault s)
  | clocked hi ht => exact .inl (ht ▸ rfl)
  | rose hi hd ht => exact .inl (ht ▸ h.risingEdge_fault hd)
  | fell hi hd ht => exact .inl (ht ▸ h.fallingEdge_fault hd)
  | recorded l hi ht => exact .inl (ht ▸ rfl)
  | selected c m hi hc ht => exact .inl (ht ▸ rfl)
  | swapped hi ht => exact .inl (ht ▸ rfl)
  | expired hi ht => exact .inl (ht ▸ rfl)
  | staged e l hm hi ht => exact .inl (ht ▸ rfl)
  | started e l b ha hi r hr ht => subst hr; exact ht ▸ startFrame_fault_cases _

/-- Settles O6: a step performs one operation, which raises no fault but the frame overlap, or only takes a word. -/
theorem tableBoundsIsUnreachable : Obligations.TableBoundsIsUnreachable := by
  intro s t h hne hs
  obtain ⟨-, ⟨i, rest, hx⟩ | ⟨rest, rfl⟩⟩ := step_next_cases hs
  · obtain e | e := (h.with_trace rest).fault_of_exec hx <;> rw [e]
    · exact hne
    · nofun
  · exact hne

end Sys2Proof.Machine
end

section
/-! The encoding and the scripts (30_encoding.md R60 to R68): the family 30_encoding.md of the obligations. -/

namespace Sys2Proof

/-! ### The rows of the opcode map -/

/-- The operations without operands (30_encoding.md R61). -/
def plainInstrs : List Instr := [.tick, .mstick, .swap, .pollf, .polll, .compa, .compb]

/-- The operation selectors of R62's map. -/
def opcodes : List Byte :=
  [0x01#8, 0x02#8, 0x03#8, 0x10#8, 0x11#8, 0x12#8, 0x20#8, 0x21#8, 0x30#8, 0x31#8, 0x32#8, 0x80#8, 0x81#8]

/-- The row of R62's map that the selector `op` chooses, and how it reads the operand bytes `a` and `b`. -/
inductive OpcodeRow (op a b : Byte) : Prop where
  | plain (i : Instr) (hi : i ∈ plainInstrs) (hop : op = i.opcode) (h : decodeFields op a b = decodePlain i a b)
  | syncin (hop : op = 0x03#8) (h : decodeFields op a b = decodeSyncin a b)
  | mode (hop : op = 0x11#8) (h : decodeFields op a b = decodeMode a b)
  | pair (hop : op ∈ [0x10#8, 0x30#8, 0x31#8, 0x32#8]) (i : Instr) (hw : i.WellFormed) (hi : encode i = opWord op a b)
      (h : decodeFields op a b = .ok i)
  | reserved (hop : op ∉ opcodes) (h : decodeFields op a b = .error .reservedOpcode)

/-- The inversion of `decodeFields`. -/
theorem opcodeRow_of_fields (op a b : Byte) : OpcodeRow op a b := by
  by_cases hop : op ∈ opcodes
  · simp only [opcodes, List.mem_cons, List.not_mem_nil, or_false] at hop
    obtain rfl | rfl | rfl | rfl | rfl | rfl | rfl | rfl | rfl | rfl | rfl | rfl | rfl := hop
    · exact .plain .tick (by decide) rfl rfl
    · exact .plain .mstick (by decide) rfl rfl
    · exact .syncin rfl rfl
    · exact .pair (by decide) (.pkt a b) trivial rfl rfl
    · exact .mode rfl rfl
    · exact .plain .swap (by decide) rfl rfl
    · exact .plain .pollf (by decide) rfl rfl
    · exact .plain .polll (by decide) rfl rfl
    · exact .pair (by decide) (.memrd a b) trivial rfl rfl
    · exact .pair (by decide) (.memwr a b) trivial rfl rfl
    · exact .pair (by decide) (.memclr a b) trivial rfl rfl
    · exact .plain .compa (by decide) rfl rfl
    · exact .plain .compb (by decide) rfl rfl
  · refine .reserved hop ?_
    simp only [opcodes, List.mem_cons, List.not_mem_nil, or_false, not_or] at hop
    simp [decodeFields, hop]

/-! ### Words and operations -/

theorem decodeMode_legal {b : Byte} (hb : b ≤ 4#8) : decodeMode 0#8 b = .ok (.mode b) := by
  simp [decodeMode, hb]

theorem decode_encode_fields (i : Instr) : decode (encode i) = decodeFields i.opcode i.aByte i.bByte := by
  simp [decode, encode]

/-- Settles O10: the fields of the word are the operation's, and its row reads them back. -/
theorem decodeOfEncodeGivesTheInstruction : Obligations.DecodeOfEncodeGivesTheInstruction := by
  intro i hw
  rw [decode_encode_fields]
  cases i with
  | tick => rfl
  | mstick => rfl
  | syncin level => cases level <;> rfl
  | pkt marker selector => rfl
  | mode code => exact decodeMode_legal hw
  | swap => rfl
  | pollf => rfl
  | polll => rfl
  | memrd a b => rfl
  | memwr a b => rfl
  | memclr a b => rfl
  | compa => rfl
  | compb => rfl

theorem encode_of_plain : ∀ i ∈ plainInstrs, i.WellFormed ∧ encode i = opWord i.opcode 0#8 0#8 := by
  simp [plainInstrs, Instr.WellFormed, encode, Instr.aByte, Instr.bByte]

/-- Fields that a row accepts are those of a well-formed operation's word. -/
theorem decodeFields_ok {op a b : Byte} {i : Instr} (h : decodeFields op a b = .ok i) :
    i.WellFormed ∧ encode i = opWord op a b := by
  cases opcodeRow_of_fields op a b with
  | plain j hj hop e =>
    obtain ⟨rfl, rfl, rfl⟩ := decodePlain_ok (e ▸ h)
    exact hop ▸ encode_of_plain i hj
  | syncin hop e =>
    obtain ⟨rfl, l, rfl, rfl⟩ := decodeSyncin_ok (e ▸ h)
    exact ⟨trivial, hop ▸ rfl⟩
  | mode hop e =>
    obtain ⟨rfl, hb, rfl⟩ := decodeMode_ok (e ▸ h)
    exact ⟨hb, hop ▸ rfl⟩
  | pair hop j hw hj e =>
    cases e.symm.trans h
    exact ⟨hw, hj⟩
  | reserved hop e => cases e.symm.trans h

/-- Settles O11, by the inversion of the decoder on the word's fields. -/
theorem encodeOfDecodeGivesTheWord : Obligations.EncodeOfDecodeGivesTheWord := by
  intro w i h
  obtain ⟨hw, he⟩ := decodeFields_ok h
  exact ⟨hw, he.trans (opWord_fields w)⟩

/-- Settles O12: the decoder computes on written words. -/
theorem wordsOfTheOpcodeMap : Obligations.WordsOfTheOpcodeMap :=
  ⟨rfl, rfl, rfl, rfl, rfl, rfl, rfl, rfl, rfl⟩

/-! ### The refused words -/

theorem decodePlain_error_iff {i : Instr} {a b : Byte} :
    (∃ e, decodePlain i a b = .error e) ↔ a ≠ 0#8 ∨ b ≠ 0#8 := by
  unfold decodePlain
  split
  · next hz => simp [hz]
  · next hz => simpa using not_and_or.mp hz

theorem decodeSyncin_error_iff {a b : Byte} :
    (∃ e, decodeSyncin a b = .error e) ↔ a ≠ 0#8 ∨ 1 < b.toNat := by
  unfold decodeSyncin
  split
  · next ha => simp [ha]
  · next ha => split <;> simp_all [BitVec.le_def]

theorem decodeMode_error_iff {a b : Byte} :
    (∃ e, decodeMode a b = .error e) ↔ a ≠ 0#8 ∨ 4 < b.toNat := by
  unfold decodeMode
  split
  · next ha => simp [ha]
  · next ha => split <;> simp_all [BitVec.le_def]

theorem opcode_of_plain :
    ∀ i ∈ plainInstrs, i.opcode ∈ opcodes ∧ i.opcode ≠ 0x03#8 ∧ i.opcode ≠ 0x11#8 := by
  decide

/-- A selector of two free operand bytes belongs to no row that restricts them. -/
theorem unrestricted_of_pair : ∀ op ∈ [0x10#8, 0x30#8, 0x31#8, 0x32#8],
    op ∈ opcodes ∧ op ∉ plainInstrs.map Instr.opcode ∧ op ≠ 0x03#8 ∧ op ≠ 0x11#8 := by
  decide

theorem decodeFields_error_iff (op a b : Byte) :
    (∃ e, decodeFields op a b = .error e) ↔
      op ∉ opcodes ∨ (op ∈ plainInstrs.map Instr.opcode ∧ (a ≠ 0#8 ∨ b ≠ 0#8)) ∨
      (op = 0x03#8 ∧ (a ≠ 0#8 ∨ 1 < b.toNat)) ∨ (op = 0x11#8 ∧ (a ≠ 0#8 ∨ 4 < b.toNat)) := by
  cases opcodeRow_of_fields op a b with
  | plain i hi hop e =>
    subst hop
    rw [e, decodePlain_error_iff]
    simp [opcode_of_plain i hi, List.mem_map_of_mem hi]
  | syncin hop e => rw [e, decodeSyncin_error_iff, hop]; simp [opcodes, plainInstrs, Instr.opcode]
  | mode hop e => rw [e, decodeMode_error_iff, hop]; simp [opcodes, plainInstrs, Instr.opcode]
  | pair hop i hw hi e => simp [e, unrestricted_of_pair op hop]
  | reserved hop e => simp [e, hop]

/-- Settles O13, row by row. -/
theorem decodeRefusesReservedAndIllegalWords : Obligations.DecodeRefusesReservedAndIllegalWords :=
  fun w => decodeFields_error_iff (opField w) (aField w) (bField w)

/-! ### The rows of the opcode table -/

/-- The word of every well-formed operation matches its row of spec/opcode_table.json. -/
theorem encode_matches_row (i : Instr) : Laws.RowMatch.Statement i := by
  cases i with
  | tick => exact Laws.RowMatch.tick
  | mstick => exact Laws.RowMatch.mstick
  | syncin level => exact Laws.RowMatch.syncin level
  | pkt marker selector => exact Laws.RowMatch.pkt marker selector
  | mode code => exact Laws.RowMatch.mode code
  | swap => exact Laws.RowMatch.swap
  | pollf => exact Laws.RowMatch.pollf
  | polll => exact Laws.RowMatch.polll
  | memrd a b => exact Laws.RowMatch.memrd a b
  | memwr a b => exact Laws.RowMatch.memwr a b
  | memclr a b => exact Laws.RowMatch.memclr a b
  | compa => exact Laws.RowMatch.compa
  | compb => exact Laws.RowMatch.compb

/-- Settles O14: a decoded word is the encoding of its operation, and the selector of a word is that of every row it
matches. -/
theorem opcodeTableRowsDoNotOverlap : Obligations.OpcodeTableRowsDoNotOverlap := by
  refine ⟨fun w i h => ?_, fun w i j hi hj => (opField_of_rowMatch hi).symm.trans (opField_of_rowMatch hj)⟩
  obtain ⟨hw, rfl⟩ := encodeOfDecodeGivesTheWord w i h
  exact encode_matches_row i hw

end Sys2Proof

namespace Sys2Proof.Machine

/-! ### What the operations of a script do to the flags -/

@[simp] theorem risingEdge_ifa (s : State) : (risingEdge s).ifa = false := by
  obtain ⟨-, e⟩ | ⟨v, -, e⟩ := risingEdge_cases s <;> rw [e]
  rfl

@[simp] theorem risingEdge_ifb (s : State) : (risingEdge s).ifb = s.ifb := by
  obtain ⟨-, e⟩ | ⟨v, -, e⟩ := risingEdge_cases s <;> rw [e]
  rfl

@[simp] theorem fallingEdge_ifa (s : State) : (fallingEdge s).ifa = s.ifa := by
  obtain ⟨-, e⟩ | ⟨-, -, e⟩ | ⟨-, v, -, e⟩ := fallingEdge_cases s <;> rw [e]
  · exact endOfToken_ifa _
  · rfl

@[simp] theorem fallingEdge_ifb (s : State) : (fallingEdge s).ifb = false := by
  obtain ⟨-, e⟩ | ⟨-, -, e⟩ | ⟨-, v, -, e⟩ := fallingEdge_cases s <;> rw [e]
  · exact endOfToken_ifb _
  · rfl

theorem fallingEdge_at_end {s : State} (hc : s.cursor = s.endIndex) :
    fallingEdge s = endOfToken { s with ifb := false, irOut := false } := by
  simp [fallingEdge, hc]

/-! ### What the handlers leave of the words and the schedule -/

@[simp] theorem risingEdge_trace (s : State) : (risingEdge s).trace = s.trace := by
  obtain ⟨-, e⟩ | ⟨v, -, e⟩ := risingEdge_cases s <;> rw [e]
  rfl

@[simp] theorem risingEdge_schedule (s : State) : (risingEdge s).schedule = s.schedule := by
  obtain ⟨-, e⟩ | ⟨v, -, e⟩ := risingEdge_cases s <;> rw [e]
  rfl

@[simp] theorem fallingEdge_trace (s : State) : (fallingEdge s).trace = s.trace := by
  obtain ⟨-, e⟩ | ⟨-, -, e⟩ | ⟨-, v, -, e⟩ := fallingEdge_cases s <;> rw [e]
  · exact endOfToken_trace _
  · rfl

@[simp] theorem fallingEdge_schedule (s : State) : (fallingEdge s).schedule = s.schedule := by
  obtain ⟨-, e⟩ | ⟨-, -, e⟩ | ⟨-, v, -, e⟩ := fallingEdge_cases s <;> rw [e]
  · exact endOfToken_schedule _
  · rfl

/-! ### `SERVICE` -/

theorem serviceOnce_of_fault {s : State} (hf : s.fault ≠ none) : serviceOnce s = s := by
  obtain ⟨f, hf⟩ := Option.ne_none_iff_exists'.mp hf
  unfold serviceOnce
  split
  · simp [performed, hf]
  · rfl

theorem serviceOnce_of_quiet {s : State} (hd : s.dueEvent = none) : serviceOnce s = s := by
  simp [serviceOnce, hd]

theorem serviceOnce_of_due {s t : State} {e : Instr} (hf : s.fault = none) (hd : s.dueEvent = some e)
    (hx : exec e s = .next t) : serviceOnce s = t := by
  simp [serviceOnce, hd, performed, hf, hx]

theorem exec_compa_of_due {s : State} (h : s.compaDue = true) : exec .compa s = .next (risingEdge s) := by
  simp [exec, execCompa, h]

theorem exec_compb_of_due {s : State} (h : s.compbDue = true) : exec .compb s = .next (fallingEdge s) := by
  simp [exec, execCompb, h]

/-- The number of compare flags that are set. -/
def pendingFlags (s : State) : Nat := s.ifa.toNat + s.ifb.toNat

theorem pendingFlags_le_two (s : State) : pendingFlags s ≤ 2 :=
  Nat.add_le_add (Bool.toNat_le _) (Bool.toNat_le _)

theorem dueEvent_of_pendingFlags_zero {s : State} (h : pendingFlags s = 0) : s.dueEvent = none := by
  simp only [pendingFlags, Nat.add_eq_zero_iff, Bool.toNat_eq_zero] at h
  simp [dueEvent_none, State.compaDue, State.compbDue, h]

/-- A round that finds a handler due clears its flag and sets none. -/
theorem pendingFlags_serviceOnce {s : State} (hf : s.fault = none) (hd : s.dueEvent ≠ none) :
    pendingFlags (serviceOnce s) + 1 = pendingFlags s := by
  obtain ⟨e, hd⟩ := Option.ne_none_iff_exists'.mp hd
  obtain ⟨rfl, hdue⟩ | ⟨rfl, -, hdue⟩ := dueEvent_some hd
  · rw [serviceOnce_of_due hf hd (exec_compa_of_due hdue)]
    simp only [State.compaDue, Bool.and_eq_true] at hdue
    simp [pendingFlags, hdue, Nat.add_comm]
  · rw [serviceOnce_of_due hf hd (exec_compb_of_due hdue)]
    simp only [State.compbDue, Bool.and_eq_true] at hdue
    simp [pendingFlags, hdue]

theorem live_of_serviceOnce {s : State} (h : (serviceOnce s).fault = none) : s.fault = none := by
  by_contra hne
  exact hne (serviceOnce_of_fault hne ▸ h)

/-- Settles O53: each round with a handler due clears one of at most two flags. -/
theorem serviceLeavesNoHandlerDue : Obligations.ServiceLeavesNoHandlerDue := by
  intro s hf
  have hf1 := live_of_serviceOnce hf
  by_contra hdue
  have hd1 : (serviceOnce s).dueEvent ≠ none := fun h => hdue (by rw [service, serviceOnce_of_quiet h, h])
  have hd0 : s.dueEvent ≠ none := fun h => hd1 (by rw [serviceOnce_of_quiet h, h])
  have h1 := pendingFlags_serviceOnce (live_of_serviceOnce hf1) hd0
  have h2 := pendingFlags_serviceOnce hf1 hd1
  have h0 := pendingFlags_le_two s
  exact hdue (dueEvent_of_pendingFlags_zero (by unfold service; omega))

/-! ### `TICK` in a script -/

theorem exec_tick_enabled {s : State} (hd : s.dueEvent = none) : exec .tick s = .next (tickTimer s) := by
  simp [exec, execTick, dueEvent_none.mp hd]

theorem exec_tick_disabled {s : State} (hd : s.dueEvent ≠ none) : exec .tick s = .refused .tickNotEnabled := by
  have hdue : (s.compaDue || s.compbDue) = true := by
    simpa [dueEvent_none, imp_iff_not_or] using hd
  simp only [exec, execTick, hdue, if_true]

theorem performed_tick_enabled {s : State} (hf : s.fault = none) (hd : s.dueEvent = none) :
    performed .tick s = tickTimer s := by
  simp [performed, hf, exec_tick_enabled hd]

theorem performed_tick_disabled {s : State} (h : ¬(s.fault = none ∧ s.dueEvent = none)) : performed .tick s = s := by
  cases hf : s.fault with
  | some f => simp [performed, hf]
  | none => simp [performed, hf, exec_tick_disabled fun hd => h ⟨hf, hd⟩]

theorem decode_encode_tick : decode (encode .tick) = .ok .tick :=
  decodeOfEncodeGivesTheInstruction .tick trivial

/-! ### The handlers and `TICK` do not look at the words to come -/

section
variable (l : List OpWord) (s : State)

theorem beginToken_with_trace (t : TokenIndex) (d : Nat) :
    beginToken t d { s with trace := l } = { beginToken t d s with trace := l } := by
  by_cases hp : s.table.countOf t = 0#8
  · rw [beginToken_absent hp, beginToken_absent (s := { s with trace := l }) hp]
  · rw [beginToken_present hp, beginToken_present (s := { s with trace := l }) hp]

theorem endOfToken_with_trace : endOfToken { s with trace := l } = { endOfToken s with trace := l } := by
  simp only [endOfToken, apply_ite (fun r : State => ({ r with trace := l } : State))]
  exact congrArg₂ _ (beginToken_with_trace l { s with ieb := false } _ _) rfl

theorem risingEdge_with_trace : risingEdge { s with trace := l } = { risingEdge s with trace := l } := by
  cases h : s.params.table.sampleAt s.cursor <;> simp [risingEdge, h, raise]

theorem fallingEdge_with_trace : fallingEdge { s with trace := l } = { fallingEdge s with trace := l } := by
  by_cases hc : s.cursor = s.endIndex
  · rw [fallingEdge_at_end hc, ← endOfToken_with_trace]
    exact fallingEdge_at_end (s := { s with trace := l }) hc
  · cases h : s.params.table.sampleAt s.cursor <;> simp [fallingEdge, hc, h, raise]

theorem tickTimer_with_trace : tickTimer { s with trace := l } = { tickTimer s with trace := l } := by
  cases hr : s.run <;> simp [tickTimer, hr]

theorem serviceOnce_with_trace : serviceOnce { s with trace := l } = { serviceOnce s with trace := l } := by
  by_cases hf : s.fault = none
  · cases hd : s.dueEvent with
    | none => rw [serviceOnce_of_quiet hd, serviceOnce_of_quiet (s := { s with trace := l }) hd]
    | some e =>
      obtain ⟨rfl, hdue⟩ | ⟨rfl, -, hdue⟩ := dueEvent_some hd
      · rw [serviceOnce_of_due hf hd (exec_compa_of_due hdue), ← risingEdge_with_trace]
        exact serviceOnce_of_due hf hd (exec_compa_of_due hdue)
      · rw [serviceOnce_of_due hf hd (exec_compb_of_due hdue), ← fallingEdge_with_trace]
        exact serviceOnce_of_due hf hd (exec_compb_of_due hdue)
  · rw [serviceOnce_of_fault hf, serviceOnce_of_fault (s := { s with trace := l }) hf]

theorem service_with_trace : service { s with trace := l } = { service s with trace := l } := by
  simp only [service, serviceOnce_with_trace]

theorem performed_tick_with_trace :
    performed .tick { s with trace := l } = { performed .tick s with trace := l } := by
  by_cases h : s.fault = none ∧ s.dueEvent = none
  · rw [performed_tick_enabled h.1 h.2, ← tickTimer_with_trace]
    exact performed_tick_enabled (s := { s with trace := l }) h.1 h.2
  · rw [performed_tick_disabled h]
    exact performed_tick_disabled (s := { s with trace := l }) h

theorem ticks_with_trace (n : Nat) : ticks n { s with trace := l } = { ticks n s with trace := l } := by
  induction n generalizing s with
  | zero => exact service_with_trace l s
  | succ n ih => simp only [ticks, service_with_trace, performed_tick_with_trace, ih]

end

/-! ### Steps under the eager schedule -/

/-- Some number of steps of the machine leads from `s` to `u`. -/
def Reaches (s u : State) : Prop := ∃ k, Host.Core.run Sys2Proof.core k s = .next u

theorem Reaches.refl (s : State) : Reaches s s := ⟨0, rfl⟩

theorem Reaches.after_step {s t u : State} (hs : step s = .next t) (h : Reaches t u) : Reaches s u := by
  obtain ⟨k, hk⟩ := h
  refine ⟨k + 1, ?_⟩
  have hs : Sys2Proof.core.step s = .next t := hs
  simp only [Host.Core.run, hs, hk]

/-- What `TICKS` meets along its way under the eager schedule, with `n` words `TICK` left. -/
structure EagerTicks (n : Nat) (s : State) : Prop where
  chain : ChainInv s
  live : s.fault = none
  eager : s.schedule = .eager
  words : s.trace = List.replicate n (encode .tick)

/-- A due handler runs before the words left, and it is the one that `SERVICE` performs. -/
theorem EagerTicks.step_of_due {n : Nat} {s t : State} {e : Instr} (h : EagerTicks n s) (hd : s.dueEvent = some e)
    (hx : exec e s = .next t) : step s = .next t := by
  have hsel : selectOperation s = .perform e s := by
    cases n <;> simp [selectOperation, h.words, List.replicate_succ, hd, waitsForHandler, decode_encode_tick]
  simp [step, select_live h.live, hsel, hx]

/-- With no handler due the next word `TICK` is performed. -/
theorem EagerTicks.step_of_quiet {n : Nat} {s : State} (h : EagerTicks (n + 1) s) (hd : s.dueEvent = none) :
    step s = .next { performed .tick s with trace := List.replicate n (encode .tick) } := by
  have hsel : selectOperation s = .perform .tick { s with trace := List.replicate n (encode .tick) } := by
    simp [selectOperation, h.words, List.replicate_succ, hd, takeWord, decode_encode_tick]
  rw [step, select_live h.live, hsel, performed_tick_enabled h.live hd, ← tickTimer_with_trace]
  exact exec_tick_enabled (s := { s with trace := _ }) hd

theorem EagerTicks.after_tick {n : Nat} {s : State} (h : EagerTicks (n + 1) s) (hd : s.dueEvent = none) :
    EagerTicks n { performed .tick s with trace := List.replicate n (encode .tick) } := by
  rw [performed_tick_enabled h.live hd]
  obtain ⟨ha, hb⟩ := dueEvent_none.mp hd
  exact ⟨(h.chain.after_tickTimer ha hb).with_trace _, (tickTimer_fault s).trans h.live,
    (tickTimer_schedule s).trans h.eager, rfl⟩

/-- A round of `SERVICE` is one step of the machine, or none. -/
theorem EagerTicks.after_serviceOnce {n : Nat} {s : State} (h : EagerTicks n s) :
    EagerTicks n (serviceOnce s) ∧ ∀ u, Reaches (serviceOnce s) u → Reaches s u := by
  cases hd : s.dueEvent with
  | none => rw [serviceOnce_of_quiet hd]; exact ⟨h, fun _ => id⟩
  | some e =>
    obtain ⟨rfl, hdue⟩ | ⟨rfl, -, hdue⟩ := dueEvent_some hd
    · have hx := exec_compa_of_due hdue
      rw [serviceOnce_of_due h.live hd hx]
      exact ⟨⟨h.chain.of_exec hx, (h.chain.risingEdge_fault hdue).trans h.live,
        (risingEdge_schedule s).trans h.eager, (risingEdge_trace s).trans h.words⟩,
        fun _ => .after_step (h.step_of_due hd hx)⟩
    · have hx := exec_compb_of_due hdue
      rw [serviceOnce_of_due h.live hd hx]
      exact ⟨⟨h.chain.of_exec hx, (h.chain.fallingEdge_fault hdue).trans h.live,
        (fallingEdge_schedule s).trans h.eager, (fallingEdge_trace s).trans h.words⟩,
        fun _ => .after_step (h.step_of_due hd hx)⟩

theorem EagerTicks.after_service {n : Nat} {s : State} (h : EagerTicks n s) :
    EagerTicks n (service s) ∧ ∀ u, Reaches (service s) u → Reaches s u :=
  have ⟨h1, back1⟩ := h.after_serviceOnce
  have ⟨h2, back2⟩ := h1.after_serviceOnce
  ⟨h2, fun u hu => back1 u (back2 u hu)⟩

theorem EagerTicks.reaches {n : Nat} {s : State} (h : EagerTicks n s) : Reaches s { ticks n s with trace := [] } := by
  induction n generalizing s with
  | zero =>
    obtain ⟨hs, back⟩ := h.after_service
    have hw : (service s).trace = [] := hs.words
    have he : ({ ticks 0 s with trace := [] } : State) = service s := by rw [← hw, ticks]
    exact he ▸ back _ (.refl _)
  | succ n ih =>
    obtain ⟨hs, back⟩ := h.after_service
    have hd := serviceLeavesNoHandlerDue s hs.live
    have hu := ih (hs.after_tick hd)
    rw [ticks_with_trace] at hu
    exact back _ (.after_step (hs.step_of_quiet hd) hu)

/-- Settles O54, by induction on the words left: each `SERVICE` is a step per due handler, each `TICK` one step more. -/
theorem eagerStepsAreTicks : Obligations.EagerStepsAreTicks :=
  fun _ _ hc hf he ht => EagerTicks.reaches ⟨hc, hf, he, ht⟩

end Sys2Proof.Machine
end

section
/-! The hardware timer and the millisecond clock (40_timers.md): the family 40_timers.md of the obligations. -/

namespace Sys2Proof.Machine

/-! ### When a handler is due -/

theorem compaDue_iff {s : State} : s.compaDue = true ↔ s.ifa = true ∧ s.iea = true := Bool.and_eq_true_iff

theorem compbDue_iff {s : State} : s.compbDue = true ↔ s.ifb = true ∧ s.ieb = true := Bool.and_eq_true_iff

theorem dueEvent_none_iff_flags {s : State} :
    s.dueEvent = none ↔ ¬(s.ifa = true ∧ s.iea = true) ∧ ¬(s.ifb = true ∧ s.ieb = true) := by
  rw [dueEvent_none, ← compaDue_iff, ← compbDue_iff, Bool.not_eq_true, Bool.not_eq_true]

theorem flagAfterMatch_iff {flag enable : Bool} {now compare : TimerWord} :
    flagAfterMatch flag enable now compare = true ↔ flag = true ∨ (enable = true ∧ now = compare) := by
  simp [flagAfterMatch]

/-- Settles O21: the three cases are a handler due, the timer stopped and the timer running. -/
theorem tickAdvancesTheTimer : Obligations.TickAdvancesTheTimer := by
  intro s
  refine ⟨fun hdue => exec_tick_disabled ?_, fun hq hr => ?_, fun hq hr => ?_⟩
  · rw [Ne, dueEvent_none_iff_flags]
    tauto
  · rw [exec_tick_enabled (dueEvent_none_iff_flags.mpr hq), tickTimer_stopped hr]
  · refine ⟨_, exec_tick_enabled (dueEvent_none_iff_flags.mpr hq), ?_⟩
    rw [tickTimer_running hr]
    exact ⟨BitVec.toNat_add .., flagAfterMatch_iff, flagAfterMatch_iff, rfl⟩

/-- Settles O22: `MSTICK` has no enabling condition and writes `ms` alone. -/
theorem mstickAdvancesTheClock : Obligations.MstickAdvancesTheClock :=
  fun s => ⟨{ s with ms := s.ms + 1#32 }, rfl, BitVec.toNat_add .., rfl⟩

/-! ### The arming law -/

/-- Within one turn of the counter a compare value is met once, the offset 0 after the whole turn. -/
theorem count_meets_compare_iff {c : TimerWord} {j d : Nat} (h1 : 1 ≤ j) (hj : j ≤ d) (hd : d ≤ 65536) :
    c + BitVec.ofNat 16 j = c + BitVec.ofNat 16 d ↔ j = d := by
  rw [BitVec.add_right_inj, ← BitVec.toNat_inj, BitVec.toNat_ofNat, BitVec.toNat_ofNat]
  omega

/-- The timer runs with no flag set, and each enabled channel has its compare value `d` ticks ahead, at most one turn of
the counter (40_timers.md R71). -/
structure ArmedAhead (d : Nat) (s : State) : Prop where
  live : s.fault = none
  running : s.run = true
  clearA : s.ifa = false
  clearB : s.ifb = false
  withinTurn : d ≤ 65536
  compareA : s.iea = true → s.ocra = s.cnt + BitVec.ofNat 16 d
  compareB : s.ieb = true → s.ocrb = s.cnt + BitVec.ofNat 16 d

namespace ArmedAhead

variable {d k : Nat} {s : State}

/-- Among the counts up to `d` ticks ahead, an enabled channel matches the last one alone. -/
theorem match_iff {enable : Bool} {compare : TimerWord} (h : ArmedAhead d s)
    (harm : enable = true → compare = s.cnt + BitVec.ofNat 16 d) (hk : k < d) :
    flagAfterMatch false enable (s.cnt + BitVec.ofNat 16 (k + 1)) compare = true ↔ enable = true ∧ k + 1 = d := by
  rw [flagAfterMatch_iff]
  cases enable with
  | false => simp
  | true => simp [harm rfl, count_meets_compare_iff (Nat.le_add_left 1 k) hk h.withinTurn]

/-- The tick after `k` others that have only counted. -/
theorem performed_tick (h : ArmedAhead d s) (k : Nat) :
    performed .tick { s with cnt := s.cnt + BitVec.ofNat 16 k } =
      { s with
        cnt := s.cnt + BitVec.ofNat 16 (k + 1)
        ifa := flagAfterMatch false s.iea (s.cnt + BitVec.ofNat 16 (k + 1)) s.ocra
        ifb := flagAfterMatch false s.ieb (s.cnt + BitVec.ofNat 16 (k + 1)) s.ocrb } := by
  have hquiet : State.dueEvent { s with cnt := s.cnt + BitVec.ofNat 16 k } = none :=
    dueEvent_none_iff_flags.mpr (by simp [h.clearA, h.clearB])
  refine Eq.trans (performed_tick_enabled h.live hquiet) (Eq.trans (tickTimer_running h.running) ?_)
  rw [BitVec.ofNat_add, ← BitVec.add_assoc, h.clearA, h.clearB]

/-- Before the `d`-th tick the timer only counts. -/
theorem ticks_before (h : ArmedAhead d s) (hk : k < d) :
    (performed .tick)^[k] s = { s with cnt := s.cnt + BitVec.ofNat 16 k } := by
  induction k with
  | zero => simp
  | succ k ih =>
    have hA := h.match_iff h.compareA (Nat.lt_of_succ_lt hk)
    have hB := h.match_iff h.compareB (Nat.lt_of_succ_lt hk)
    simp only [hk.ne, and_false, iff_false, Bool.not_eq_true] at hA hB
    rw [Function.iterate_succ_apply', ih (Nat.lt_of_succ_lt hk), h.performed_tick, hA, hB, h.clearA, h.clearB]

/-- The `d`-th tick sets the flags of the enabled channels, and no tick before it sets one. -/
theorem flags_after_ticks (h : ArmedAhead d s) (h1 : 1 ≤ d) (hk : k ≤ d) :
    (((performed .tick)^[k] s).ifa = true ↔ s.iea = true ∧ k = d) ∧
    (((performed .tick)^[k] s).ifb = true ↔ s.ieb = true ∧ k = d) := by
  cases k with
  | zero => simp [h.clearA, h.clearB, Nat.ne_of_lt h1]
  | succ k =>
    rw [Function.iterate_succ_apply', h.ticks_before hk, h.performed_tick]
    exact ⟨h.match_iff h.compareA hk, h.match_iff h.compareB hk⟩

end ArmedAhead

/-- Settles O23: one channel is enabled, `d` ticks ahead, and the other has no compare value to meet. -/
theorem armingLaw : Obligations.ArmingLaw := by
  intro s d k hf hr ha hb h1 hd hk
  constructor
  · intro hA hB harm
    have h : ArmedAhead d s := ⟨hf, hr, ha, hb, hd, fun _ => harm, by simp [hB]⟩
    simpa [hA, hB] using h.flags_after_ticks h1 hk
  · intro hB hA harm
    have h : ArmedAhead d s := ⟨hf, hr, ha, hb, hd, by simp [hA], fun _ => harm⟩
    simpa [hA, hB, and_comm] using h.flags_after_ticks h1 hk

/-! ### The stimuli between a match and its handler -/

theorem ofCode_of_le_four {c : Byte} (h : c.toNat ≤ 4) : ∃ m, Mode.ofCode c = some m := by
  have hc : c = 0#8 ∨ c = 1#8 ∨ c = 2#8 ∨ c = 3#8 ∨ c = 4#8 := by bv_omega
  obtain rfl | rfl | rfl | rfl | rfl := hc <;> exact ⟨_, rfl⟩

/-- Every operation but `TICK` and the handlers answers a next state, in every state. -/
theorem stimulus_answers {i : Instr} (s : State) (ht : i ≠ .tick) (ha : i ≠ .compa) (hb : i ≠ .compb) :
    ∃ t, exec i s = .next t := by
  cases i with
  | tick => exact absurd rfl ht
  | mstick => exact ⟨_, rfl⟩
  | syncin l => obtain ⟨-, e⟩ | ⟨-, -, e⟩ := execSyncin_cases l s <;> exact ⟨_, e⟩
  | pkt m sel => obtain ⟨-, e⟩ | ⟨-, -, e⟩ | ⟨-, -, e⟩ := execPkt_cases m sel s <;> exact ⟨_, e⟩
  | mode c => obtain ⟨-, e⟩ | ⟨m, -, e⟩ := execMode_cases c s <;> exact ⟨_, e⟩
  | swap => exact ⟨_, rfl⟩
  | pollf => obtain ⟨-, e⟩ | ⟨-, -, e⟩ := execPollf_cases s <;> exact ⟨_, e⟩
  | polll => obtain ⟨-, e⟩ | ⟨-, -, e⟩ := execPolll_cases s <;> exact ⟨_, e⟩
  | memrd a b => exact ⟨_, rfl⟩
  | memwr a b => exact ⟨_, rfl⟩
  | memclr a b => exact ⟨_, rfl⟩
  | compa => exact absurd rfl ha
  | compb => exact absurd rfl hb

/-- While the timer runs no frame can start, so every stimulus but `TICK` and `MODE` leaves the engine alone. -/
theorem sameEngine_of_running_stimulus {i : Instr} {s t : State} (hr : s.run = true) (hx : exec i s = .next t)
    (ht : i ≠ .tick) (ha : i ≠ .compa) (hb : i ≠ .compb) (hm : ∀ c, i ≠ .mode c) : SameEngine s t := by
  cases engineDid_of_exec hx with
  | kept e => exact e
  | ticked hi => exact absurd hi ht
  | rose hi => exact absurd hi ha
  | fell hi => exact absurd hi hb
  | selected c m hi => exact absurd hi (hm c)
  | began _ hstop => simp [hr] at hstop

theorem SameEngine.dueEvent {s t : State} (e : SameEngine s t) : t.dueEvent = s.dueEvent := by
  have hA : t.compaDue = s.compaDue := by rw [State.compaDue, e.ifa, e.iea, State.compaDue]
  have hB : t.compbDue = s.compbDue := by rw [State.compbDue, e.ifb, e.ieb, State.compbDue]
  rw [State.dueEvent, hA, hB, State.dueEvent]

theorem selectMode_dueEvent (m : Mode) (s : State) : (selectMode m s).dueEvent = none :=
  dueEvent_none_iff_flags.mpr (by simp)

/-- Settles O24: while the timer runs a stimulus leaves the engine alone, and a legal `MODE` clears the chain. -/
theorem dueHandlerSurvivesOtherStimuli : Obligations.DueHandlerSurvivesOtherStimuli := by
  refine ⟨fun _ => exec_tick_disabled, fun _ s => stimulus_answers s, ?_, ?_⟩
  · intro i s t hr hx ht ha hb hm
    have e := sameEngine_of_running_stimulus hr hx ht ha hb hm
    exact ⟨e.dueEvent, e.cnt, e.ocra, e.ocrb⟩
  · intro c s t hc hx
    obtain ⟨m, hm⟩ := ofCode_of_le_four hc
    obtain ⟨hn, -⟩ | ⟨m', -, e⟩ := execMode_cases c s
    · simp [hm] at hn
    · rw [exec, e] at hx
      cases hx
      exact selectMode_dueEvent m' s

end Sys2Proof.Machine
end

section
/-! The Pulse Cursor Engine and the waveform that it emits (41_pulse_cursor.md): the family 41_pulse_cursor.md of the obligations. -/

namespace Sys2Proof.Machine

/-! ### The numbers of the rules, as words -/

theorem isOpeningSlot_iff {t : TokenIndex} : isOpeningSlot t = true ↔ t.toNat % 2 = 0 := by
  revert t; decide

theorem sampleTicks_eq (v : Sample) : sampleTicks v = BitVec.ofNat 16 (2 * v.toNat) := by
  simp [BitVec.ofNat_mul, sampleTicks]

/-- A compare value a sample ahead of the count, in the numbers of R81 and R82. -/
theorem ofNat_add_two_mul (c : TimerWord) (v : Sample) :
    BitVec.ofNat 16 (c.toNat + 2 * v.toNat) = c + sampleTicks v := by
  rw [sampleTicks_eq, BitVec.ofNat_add, BitVec.ofNat_toNat, BitVec.setWidth_eq]

theorem sampleAt_eq_none_iff {T : Table} {c : SampleIndex} : T.sampleAt c = none ↔ T.samples.length ≤ c.toNat :=
  List.getElem?_eq_none_iff

/-! ### The branches of the handlers and of the end of a token -/

theorem risingEdge_outside {s : State} (h : s.table.sampleAt s.cursor = none) :
    risingEdge s = { s with ifa := false, irOut := true, fault := some .tableBounds } := by
  rw [table_eq] at h
  simp [risingEdge, h, raise]

theorem risingEdge_sample {s : State} {v : Sample} (h : s.table.sampleAt s.cursor = some v) :
    risingEdge s =
      { s with
        ifa := false
        irOut := true
        cursor := s.cursor + 1#8
        ocrb := s.cnt + sampleTicks v
        iea := false
        ieb := true } := by
  rw [table_eq] at h
  simp [risingEdge, h]

theorem fallingEdge_outside {s : State} (hc : s.cursor ≠ s.endIndex) (h : s.table.sampleAt s.cursor = none) :
    fallingEdge s = { s with ifb := false, irOut := false, fault := some .tableBounds } := by
  rw [table_eq] at h
  simp [fallingEdge, hc, h, raise]

theorem fallingEdge_sample {s : State} {v : Sample} (hc : s.cursor ≠ s.endIndex)
    (h : s.table.sampleAt s.cursor = some v) :
    fallingEdge s =
      { s with
        ifb := false
        irOut := false
        cursor := s.cursor + 1#8
        ocra := s.cnt + sampleTicks v
        iea := true
        ieb := false } := by
  rw [table_eq] at h
  simp [fallingEdge, hc, h]

/-- An opening slot with its closing slot present goes on to it (42_token_sequencer.md R90). -/
theorem endOfToken_chains {s : State} (ht : s.currentToken.toNat % 2 = 0)
    (hp : s.table.countOf (s.currentToken + 1#2) ≠ 0#8) :
    endOfToken s = beginToken (s.currentToken + 1#2) s.params.gapTicks { s with ieb := false } := by
  obtain ⟨-, -, e⟩ | ⟨hn, -⟩ := endOfToken_cases s
  · exact e
  · have ho := isOpeningSlot_iff.mpr ht
    exact absurd hn (by simp only [ho, hp, or_self, Bool.true_eq_false, not_false_eq_true])

theorem endOfToken_ends {s : State}
    (h : s.currentToken.toNat % 2 = 1 ∨ s.table.countOf (s.currentToken + 1#2) = 0#8) :
    endOfToken s = endFrame s := by
  obtain ⟨ho, hp, -⟩ | ⟨-, e⟩ := endOfToken_cases s
  · have ht := isOpeningSlot_iff.mp ho
    exact absurd h (by simp only [ht, hp, or_self, zero_ne_one, not_false_eq_true])
  · exact e

/-! ### The rules of the engine -/

/-- Settles O25: the two branches of `begin_token`, with its two word additions as numbers modulo their width. -/
theorem beginTokenRule : Obligations.BeginTokenRule := by
  intro t d s
  refine ⟨beginToken_absent, fun hp => ?_⟩
  rw [beginToken_present hp]
  cases hr : s.run <;> simp [BitVec.ofNat_add]

/-- Settles O26: not due, outside the table, or at a sample. -/
theorem compaRule : Obligations.CompaRule := by
  intro s
  refine ⟨fun hq => ?_, fun ha he hout => ?_, fun v ha he hv => ?_⟩
  · simp only [exec, execCompa, compaDue_iff, hq, if_false]
  · rw [exec_compa_of_due (compaDue_iff.mpr ⟨ha, he⟩), risingEdge_outside (sampleAt_eq_none_iff.mpr hout)]
  · rw [exec_compa_of_due (compaDue_iff.mpr ⟨ha, he⟩), risingEdge_sample hv, ofNat_add_two_mul]

/-- Settles O27: not due; before the end of the token outside the table or at a sample; at its end with a slot to follow
or with none. -/
theorem compbRule : Obligations.CompbRule := by
  intro s
  refine ⟨fun hq => ?_, fun hb he hc hout => ?_, fun v hb he hc hv => ?_, fun hb he hc ht hp => ?_,
    fun hb he hc hlast => ?_⟩
  · simp only [exec, execCompb, compbDue_iff, hq, if_false]
  · rw [exec_compb_of_due (compbDue_iff.mpr ⟨hb, he⟩), fallingEdge_outside hc (sampleAt_eq_none_iff.mpr hout)]
  · rw [exec_compb_of_due (compbDue_iff.mpr ⟨hb, he⟩), fallingEdge_sample hc hv, ofNat_add_two_mul]
  · rw [exec_compb_of_due (compbDue_iff.mpr ⟨hb, he⟩), fallingEdge_at_end hc,
      endOfToken_chains (s := { s with ifb := false, irOut := false }) ht hp,
      beginToken_present (s := { s with ifb := false, irOut := false, ieb := false }) hp]
    cases hr : s.run <;> simp [BitVec.ofNat_add]
  · rw [exec_compb_of_due (compbDue_iff.mpr ⟨hb, he⟩), fallingEdge_at_end hc,
      endOfToken_ends (s := { s with ifb := false, irOut := false }) hlast]
    rfl

/-- Settles O28: while the timer runs no frame can start, and `TICK` writes the timer alone. -/
theorem chainOwnsThePulseCursor : Obligations.ChainOwnsThePulseCursor := by
  intro i s t hr hx ha hb hm
  by_cases ht : i = .tick
  · subst ht
    obtain ⟨-, -, rfl⟩ := execTick_next hx
    exact ⟨tickTimer_currentToken s, tickTimer_cursor s, tickTimer_endIndex s⟩
  · have e := sameEngine_of_running_stimulus hr hx ht ha hb hm
    exact ⟨e.currentToken, e.cursor, e.endIndex⟩

/-! ### The phases of the chain -/

theorem phase_idle_iff {s : State} : s.phase = .idle ↔ s.run = false := by
  unfold State.phase
  split
  · simp_all
  · split_ifs <;> simp_all

theorem phase_of_mark {s : State} (hr : s.run = true) (hb : s.ieb = true) : s.phase = .transmittingMark := by
  simp [State.phase, hr, hb]

theorem phase_at_start {s : State} (hr : s.run = true) (hb : s.ieb = false)
    (hc : s.cursor = s.table.startOf s.currentToken) : s.phase = .awaitingPan := by
  rw [table_eq] at hc
  simp [State.phase, hr, hb, hc]

theorem phase_past_start {s : State} (hr : s.run = true) (hb : s.ieb = false)
    (hc : s.cursor ≠ s.table.startOf s.currentToken) : s.phase = .transmittingSpace := by
  rw [table_eq] at hc
  simp [State.phase, hr, hb, hc]

/-- A present slot that begins awaits its first rising edge, the delay ahead of the count it finds or starts. -/
theorem beginToken_awaitsPan {t : TokenIndex} {d : Nat} {s : State} (hp : s.table.countOf t ≠ 0#8) :
    (beginToken t d s).phase = .awaitingPan ∧ (beginToken t d s).iea = true ∧
    (beginToken t d s).ocra = (beginToken t d s).cnt + BitVec.ofNat 16 d := by
  rw [beginToken_present hp]
  exact ⟨phase_at_start rfl rfl rfl, rfl, rfl⟩

theorem beginToken_row {t : TokenIndex} {d : Nat} {s : State} (hr : s.run = false) :
    if s.table.countOf t = 0#8 then (beginToken t d s).phase = .idle
    else (beginToken t d s).phase = .awaitingPan ∧ (beginToken t d s).iea = true ∧
      (beginToken t d s).ocra = (beginToken t d s).cnt + BitVec.ofNat 16 d := by
  split
  · next hp => rw [beginToken_absent hp]; exact phase_idle_iff.mpr hr
  · next hp => exact beginToken_awaitsPan hp

theorem startFrame_row {s : State} (hr : s.run = false) :
    if s.table.countOf (startFrame s).currentEye.openingSlot = 0#8 then (startFrame s).phase = .idle
    else (startFrame s).phase = .awaitingPan ∧ (startFrame s).iea = true ∧
      (startFrame s).ocra = (startFrame s).cnt + BitVec.ofNat 16 s.params.panTicks := by
  rw [startFrame_idle hr, beginToken_currentEye]
  exact beginToken_row
    (s := { s with active := true, currentEye := s.nextEye, lastFrameTime := s.ms, synced := false }) hr

theorem endOfToken_row {s : State} (hr : s.run = true) :
    if s.currentToken.toNat % 2 = 0 ∧ s.table.countOf (s.currentToken + 1#2) ≠ 0#8 then
      (endOfToken s).phase = .awaitingPan ∧ (endOfToken s).iea = true ∧
        (endOfToken s).ocra = s.cnt + BitVec.ofNat 16 s.params.gapTicks
    else (endOfToken s).phase = .idle := by
  split
  · next hnext =>
    rw [← endOfToken_cnt_of_run hr, endOfToken_chains hnext.1 hnext.2]
    exact beginToken_awaitsPan hnext.2
  · next hlast =>
    rw [endOfToken_ends ((not_and_or.mp hlast).imp Nat.mod_two_ne_zero.mp not_not.mp)]
    exact phase_idle_iff.mpr rfl

/-! ### The rows of the transition table -/

theorem authorized_starts {i : Instr} {s : State} (hr : s.run = false) (ha : AuthorizesFrame i s) :
    ∃ t, exec i s = .next t ∧
      if s.table.countOf t.currentEye.openingSlot = 0#8 then t.phase = .idle
      else t.phase = .awaitingPan ∧ t.iea = true ∧ t.ocra = t.cnt + BitVec.ofNat 16 s.params.panTicks := by
  obtain ⟨e, l, b, r, rfl, hx⟩ := exec_of_authorizes ha
  exact ⟨_, hx, startFrame_row (s := { s with syncIn := l, nextEye := e, synced := b }) hr⟩

theorem authorized_overlaps {i : Instr} {s : State} (hr : s.run = true) (ha : AuthorizesFrame i s) :
    ∃ t, exec i s = .next t ∧ t.fault = some .frameOverlap := by
  obtain ⟨e, l, b, r, rfl, hx⟩ := exec_of_authorizes ha
  exact ⟨_, hx, congrArg State.fault <| startFrame_overlap (s := { s with syncIn := l, nextEye := e, synced := b }) hr⟩

theorem ChainInv.compa_row {s : State} (h : ChainInv s) (hd : s.compaDue = true) :
    (s.phase = .awaitingPan ∨ s.phase = .transmittingSpace) ∧
    ∃ t v, exec .compa s = .next t ∧ t.phase = .transmittingMark ∧ t.ieb = true ∧
      s.table.sampleAt s.cursor = some v ∧ t.ocrb = s.cnt + 2#16 * v := by
  obtain ⟨-, ha⟩ := compaDue_iff.mp hd
  have hr := h.engine.run_of_iea ha
  obtain ⟨hb, -⟩ := h.engine.channelB_clear ha
  obtain ⟨⟨v, hv⟩, -⟩ := h.sample_at_cursor hr (h.cursor_lt_of_iea ha)
  constructor
  · by_cases hc : s.cursor = s.table.startOf s.currentToken
    · exact .inl (phase_at_start hr hb hc)
    · exact .inr (phase_past_start hr hb hc)
  · refine ⟨_, v, exec_compa_of_due hd, ?_⟩
    rw [risingEdge_sample hv]
    exact ⟨phase_of_mark hr rfl, rfl, hv, rfl⟩

/-- Before the end of the token the falling edge finds a sample, and the cursor behind it is not the slot's start. -/
theorem ChainInv.compb_row_space {s : State} (h : ChainInv s) (hd : s.compbDue = true) (hc : s.cursor ≠ s.endIndex) :
    ∃ t v, exec .compb s = .next t ∧ t.phase = .transmittingSpace ∧ t.iea = true ∧
      s.table.sampleAt s.cursor = some v ∧ t.ocra = s.cnt + 2#16 * v := by
  have hr := h.engine.run_of_ieb (compbDue_iff.mp hd).2
  obtain ⟨⟨v, hv⟩, hnext⟩ :=
    h.sample_at_cursor hr ((h.cursor.cursorLe hr).lt_of_ne (BitVec.toNat_ne_iff_ne.mpr hc))
  have hpast : s.cursor + 1#8 ≠ s.table.startOf s.currentToken :=
    BitVec.toNat_ne_iff_ne.mp (by have := h.cursor.startLe hr; omega)
  refine ⟨_, v, exec_compb_of_due hd, ?_⟩
  rw [fallingEdge_sample hc hv]
  exact ⟨phase_past_start hr rfl hpast, rfl, hv, rfl⟩

theorem ChainInv.compb_row_end {s : State} (h : ChainInv s) (hd : s.compbDue = true) (hc : s.cursor = s.endIndex) :
    ∃ t, exec .compb s = .next t ∧
      if s.currentToken.toNat % 2 = 0 ∧ s.table.countOf (s.currentToken + 1#2) ≠ 0#8 then
        t.phase = .awaitingPan ∧ t.iea = true ∧ t.ocra = s.cnt + BitVec.ofNat 16 s.params.gapTicks
      else t.phase = .idle := by
  have hr := h.engine.run_of_ieb (compbDue_iff.mp hd).2
  refine ⟨_, exec_compb_of_due hd, ?_⟩
  rw [fallingEdge_at_end hc]
  exact endOfToken_row (s := { s with ifb := false, irOut := false }) hr

/-- Settles O29, row by row. -/
theorem phaseTransitionTable : Obligations.PhaseTransitionTable := by
  intro s h
  refine ⟨fun i hi => authorized_starts (phase_idle_iff.mp hi),
    fun i hi => authorized_overlaps (Bool.eq_true_of_not_eq_false fun hr => hi (phase_idle_iff.mpr hr)),
    h.compa_row,
    fun hd => ⟨phase_of_mark (h.engine.run_of_ieb (compbDue_iff.mp hd).2) (compbDue_iff.mp hd).2,
      h.compb_row_space hd, h.compb_row_end hd⟩,
    fun c hc => ?_⟩
  obtain ⟨m, hm⟩ := ofCode_of_le_four hc
  exact ⟨selectMode m s, by simp [exec, execMode, hm], phase_idle_iff.mpr rfl, rfl, rfl⟩

/-! ### The waveform law: the samples of a present slot -/

theorem length_slotSamples {T : Table} (h : T.wf = true) {t : TokenIndex} (hp : T.countOf t ≠ 0#8) :
    (slotSamples T t).length = (T.countOf t).toNat := by
  obtain ⟨hle, -, -, -⟩ := T.slot_of_wf h hp
  simp only [slotSamples, List.length_map, List.length_take, List.length_drop]
  omega

/-- The `k`-th sample of a present slot, where the cursor reads it, and its range (20_memory.md R42 WF4). -/
theorem slotSamples_getElem? {T : Table} (h : T.wf = true) {t : TokenIndex} (hp : T.countOf t ≠ 0#8) {k : Nat}
    (hk : k < (T.countOf t).toNat) :
    ∃ v, T.samples[(T.startOf t).toNat + k]? = some v ∧ (slotSamples T t)[k]? = some v.toNat ∧
      1 ≤ v.toNat ∧ v.toNat ≤ 32767 := by
  obtain ⟨hle, -, -, hrange⟩ := T.slot_of_wf h hp
  have hv := List.getElem?_eq_getElem (l := T.samples) (i := (T.startOf t).toNat + k) (by omega)
  have hslot := (List.getElem?_take_of_lt hk).trans (List.getElem?_drop.trans hv)
  exact ⟨_, hv, by rw [slotSamples, List.getElem?_map, hslot]; rfl, hrange _ (List.mem_of_getElem? hslot)⟩

/-! ### The instants of the edges -/

/-- The tick of the `k`-th edge after a `begin_token` with delay `d`, rising for an even and falling for an odd `k`. -/
def edgeTime (d : Nat) (samples : List Nat) (k : Nat) : Nat := d + 2 * (samples.take k).sum

theorem edgeTime_succ {d : Nat} {samples : List Nat} {k v : Nat} (h : samples[k]? = some v) :
    edgeTime d samples (k + 1) = edgeTime d samples k + 2 * v := by
  simp [edgeTime, List.take_add_one, h]
  omega

theorem edgeTime_end (d : Nat) (T : Table) (t : TokenIndex) :
    edgeTime d (slotSamples T t) (slotSamples T t).length = d + slotTicks T t := by
  rw [edgeTime, List.take_length, slotTicks]

theorem edgeTime_mono (d : Nat) (samples : List Nat) : Monotone (edgeTime d samples) :=
  monotone_nat_of_le_succ fun k => by simp [edgeTime, List.take_add_one]

/-- Between two edges in a row the line is high iff the first of them is a rising one. -/
theorem markAt_iff {d : Nat} {samples : List Nat} {k j : Nat} (hk : k ≤ samples.length)
    (hpast : ∀ i < k, edgeTime d samples i ≤ j) (hnext : j < edgeTime d samples k) :
    MarkAt d samples j ↔ k % 2 = 1 := by
  constructor
  · rintro ⟨i, hi, -, hfrom, hto⟩
    have hik : i < k := (edgeTime_mono d samples).reflect_lt (hfrom.trans_lt hnext)
    have hki : ¬i + 1 < k := fun hlt => (hpast _ hlt).not_gt hto
    omega
  · intro hodd
    obtain ⟨i, rfl⟩ : ∃ i, k = i + 1 := ⟨k - 1, by omega⟩
    exact ⟨i, by omega, hk, hpast i i.lt_succ_self, hnext⟩

theorem not_markAt_of_end {d : Nat} {samples : List Nat} {j : Nat} (h : edgeTime d samples samples.length ≤ j) :
    ¬MarkAt d samples j := by
  rintro ⟨i, -, hi, -, hto⟩
  exact (h.trans_lt hto).not_ge (edgeTime_mono d samples hi)

/-! ### Ticks with the eager schedule -/

/-- One `TICK` and the handlers that it makes due. -/
def tickRound (s : State) : State := service (performed .tick s)

theorem ticks_eq_iterate (n : Nat) (s : State) : ticks n s = tickRound^[n] (service s) := by
  induction n generalizing s with
  | zero => rfl
  | succ n ih => exact ih _

theorem service_of_quiet {s : State} (hd : s.dueEvent = none) : service s = s := by
  simp only [service, serviceOnce_of_quiet hd]

theorem service_of_due {s t : State} {e : Instr} (hf : s.fault = none) (hd : s.dueEvent = some e)
    (hx : exec e s = .next t) (ht : t.dueEvent = none) : service s = t := by
  rw [service, serviceOnce_of_due hf hd hx, serviceOnce_of_quiet ht]

theorem dueEvent_of_clear_flags {s : State} (ha : s.ifa = false) (hb : s.ifb = false) : s.dueEvent = none :=
  dueEvent_none_iff_flags.mpr (by simp [ha, hb])

theorem ArmedAhead.dueEvent {d : Nat} {s : State} (h : ArmedAhead d s) : s.dueEvent = none :=
  dueEvent_of_clear_flags h.clearA h.clearB

/-- More than one tick ahead of the match a round only counts. -/
theorem ArmedAhead.tickRound_far {d : Nat} {s : State} (h : ArmedAhead (d + 1) s) (hd : 1 ≤ d) :
    tickRound s = { s with cnt := s.cnt + 1#16 } := by
  have ht : performed .tick s = { s with cnt := s.cnt + 1#16 } := h.ticks_before (k := 1) (by omega)
  rw [tickRound, ht]
  exact service_of_quiet (dueEvent_of_clear_flags h.clearA h.clearB)

/-- One tick ahead of the match the tick sets the flag of every enabled channel. -/
theorem ArmedAhead.performed_tick_last {s : State} (h : ArmedAhead 1 s) :
    performed .tick s = { s with cnt := s.cnt + 1#16, ifa := s.iea, ifb := s.ieb } := by
  have hA : flagAfterMatch s.ifa s.iea (s.cnt + 1#16) s.ocra = s.iea := by
    cases ha : s.iea <;> simp [flagAfterMatch, h.clearA, h.compareA, ha]
  have hB : flagAfterMatch s.ifb s.ieb (s.cnt + 1#16) s.ocrb = s.ieb := by
    cases hb : s.ieb <;> simp [flagAfterMatch, h.clearB, h.compareB, hb]
  rw [performed_tick_enabled h.live h.dueEvent, tickTimer_running h.running, hA, hB]

theorem dueEvent_of_compaDue {s : State} (ha : s.compaDue = true) : s.dueEvent = some .compa := by
  simp [State.dueEvent, ha]

theorem dueEvent_of_compbDue {s : State} (ha : s.compaDue = false) (hb : s.compbDue = true) :
    s.dueEvent = some .compb := by
  simp [State.dueEvent, ha, hb]

theorem ArmedAhead.tickRound_rises {s : State} (h : ArmedAhead 1 s) (ha : s.iea = true) (hb : s.ieb = false) :
    tickRound s = risingEdge { s with cnt := s.cnt + 1#16, ifa := true } := by
  have ht : performed .tick s = { s with cnt := s.cnt + 1#16, ifa := true } := by
    rw [h.performed_tick_last, ha, hb, h.clearB]
  have hdue : State.compaDue { s with cnt := s.cnt + 1#16, ifa := true } = true := compaDue_iff.mpr ⟨rfl, ha⟩
  rw [tickRound, ht]
  exact service_of_due h.live (dueEvent_of_compaDue hdue) (exec_compa_of_due hdue)
    (dueEvent_of_clear_flags (risingEdge_ifa _) ((risingEdge_ifb _).trans h.clearB))

theorem ArmedAhead.tickRound_falls {s : State} (h : ArmedAhead 1 s) (ha : s.iea = false) (hb : s.ieb = true) :
    tickRound s = fallingEdge { s with cnt := s.cnt + 1#16, ifb := true } := by
  have ht : performed .tick s = { s with cnt := s.cnt + 1#16, ifb := true } := by
    rw [h.performed_tick_last, ha, hb, h.clearA]
  have hdue : State.compbDue { s with cnt := s.cnt + 1#16, ifb := true } = true := compbDue_iff.mpr ⟨rfl, hb⟩
  rw [tickRound, ht]
  exact service_of_due h.live (dueEvent_of_compbDue (by simp [State.compaDue, ha]) hdue) (exec_compb_of_due hdue)
    (dueEvent_of_clear_flags ((fallingEdge_ifa _).trans h.clearA) (fallingEdge_ifb _))

/-! ### From edge to edge -/

/-- Slot `t` is being sent: `k` of its samples are consumed, and its `k`-th edge is `g` ticks ahead. -/
structure AwaitsEdge (p : Params) (t : TokenIndex) (k g : Nat) (s : State) : Prop extends ArmedAhead g s where
  params : s.params = p
  present : p.table.countOf t ≠ 0#8
  token : s.currentToken = t
  consumed : s.cursor.toNat = (p.table.startOf t).toNat + k
  endIs : s.endIndex.toNat = (p.table.startOf t).toNat + (p.table.countOf t).toNat
  risingNext : s.iea = decide (k % 2 = 0)
  fallingNext : s.ieb = decide (k % 2 = 1)
  line : s.irOut = s.ieb

/-- The end of slot `t` is to be decided: all its samples are consumed, and the line is low. -/
structure TokenSent (p : Params) (t : TokenIndex) (u : State) : Prop where
  live : u.fault = none
  running : u.run = true
  clearA : u.ifa = false
  clearB : u.ifb = false
  params : u.params = p
  token : u.currentToken = t
  atEnd : u.cursor = u.endIndex
  consumed : u.cursor.toNat = (p.table.startOf t).toNat + (p.table.countOf t).toNat
  low : u.irOut = false

theorem awaitsEdge_beginToken {t : TokenIndex} {d : Nat} {s : State} (hf : s.fault = none) (hifa : s.ifa = false)
    (hifb : s.ifb = false) (hir : s.irOut = false) (hd : d ≤ 65535) (hp : s.table.countOf t ≠ 0#8) :
    AwaitsEdge s.params t 0 d (beginToken t d s) := by
  have hend := toNat_startOf_add_countOf hp
  rw [beginToken_present hp]
  exact
    { live := hf, running := rfl, clearA := hifa, clearB := hifb, withinTurn := by omega
      compareA := fun _ => rfl, compareB := nofun
      params := rfl, present := hp, token := rfl, consumed := rfl, endIs := hend
      risingNext := rfl, fallingNext := rfl, line := hir }

namespace AwaitsEdge

variable {p : Params} {t : TokenIndex} {k g d : Nat} {s : State}

theorem table_wf (h : AwaitsEdge p t k g s) : p.table.wf = true :=
  Params.table_wf (h.params ▸ s.registered)

/-- A round that only counts brings the edge one tick nearer. -/
theorem round_far (h : AwaitsEdge p t k (g + 1) s) (hg : 1 ≤ g) : AwaitsEdge p t k g (tickRound s) := by
  have hnear (c : TimerWord) : c + BitVec.ofNat 16 (g + 1) = c + 1#16 + BitVec.ofNat 16 g := by
    rw [Nat.add_comm, BitVec.ofNat_add, BitVec.add_assoc]
  rw [h.tickRound_far hg]
  exact { h with
    withinTurn := Nat.le_of_succ_le h.withinTurn
    compareA := fun ha => (h.compareA ha).trans (hnear _)
    compareB := fun hb => (h.compareB hb).trans (hnear _) }

/-- The sample behind the `k`-th edge, with the cursor on it and the next cursor. -/
theorem sample (h : AwaitsEdge p t k g s) (hk : k < (p.table.countOf t).toNat) :
    ∃ v, s.table.sampleAt s.cursor = some v ∧ (slotSamples p.table t)[k]? = some v.toNat ∧
      1 ≤ v.toNat ∧ v.toNat ≤ 32767 ∧ (s.cursor + 1#8).toNat = (p.table.startOf t).toNat + (k + 1) := by
  obtain ⟨hle, h255, -, -⟩ := Table.slot_of_wf h.table_wf h.present
  obtain ⟨v, hv, hslot, h1, h2⟩ := slotSamples_getElem? h.table_wf h.present hk
  have hc := h.consumed
  refine ⟨v, ?_, hslot, h1, h2, by bv_omega⟩
  rw [table_eq, h.params, Table.sampleAt, hc, hv]

/-- The edge that consumes the `k`-th sample `v`: the next edge is `2 * v` ticks ahead. -/
theorem round_edge (h : AwaitsEdge p t k 1 s) (hk : k < (p.table.countOf t).toNat) :
    ∃ v, (slotSamples p.table t)[k]? = some v ∧ 1 ≤ v ∧ AwaitsEdge p t (k + 1) (2 * v) (tickRound s) := by
  obtain ⟨v, hv, hslot, h1, h2, hnext⟩ := h.sample hk
  refine ⟨v.toNat, hslot, h1, ?_⟩
  obtain hpar | hpar := Nat.mod_two_eq_zero_or_one k
  · have ha : s.iea = true := h.risingNext.trans (decide_eq_true hpar)
    have hb : s.ieb = false := h.fallingNext.trans (decide_eq_false (by omega))
    rw [h.tickRound_rises ha hb, risingEdge_sample (s := { s with cnt := s.cnt + 1#16, ifa := true }) hv]
    exact { h with
      clearA := rfl
      withinTurn := by omega
      compareA := nofun
      compareB := fun _ => congrArg (s.cnt + 1#16 + ·) (sampleTicks_eq v)
      consumed := hnext
      risingNext := (decide_eq_false (by omega)).symm
      fallingNext := (decide_eq_true (by omega)).symm
      line := rfl }
  · have ha : s.iea = false := h.risingNext.trans (decide_eq_false (by omega))
    have hb : s.ieb = true := h.fallingNext.trans (decide_eq_true hpar)
    have hc : s.cursor ≠ s.endIndex :=
      BitVec.toNat_ne_iff_ne.mp (by rw [h.consumed, h.endIs]; omega)
    rw [h.tickRound_falls ha hb, fallingEdge_sample (s := { s with cnt := s.cnt + 1#16, ifb := true }) hc hv]
    exact { h with
      clearB := rfl
      withinTurn := by omega
      compareA := fun _ => congrArg (s.cnt + 1#16 + ·) (sampleTicks_eq v)
      compareB := nofun
      consumed := hnext
      risingNext := (decide_eq_true (by omega)).symm
      fallingNext := (decide_eq_false (by omega)).symm
      line := rfl }

/-- The edge behind the last sample, a falling one since the count is odd (20_memory.md R42 WF2). -/
theorem round_end (h : AwaitsEdge p t k 1 s) (hk : k = (p.table.countOf t).toNat) :
    ∃ u, tickRound s = endOfToken u ∧ TokenSent p t u := by
  obtain ⟨-, -, hodd, -⟩ := Table.slot_of_wf h.table_wf h.present
  have ha : s.iea = false := h.risingNext.trans (decide_eq_false (by omega))
  have hb : s.ieb = true := h.fallingNext.trans (decide_eq_true (by omega))
  have hc : s.cursor = s.endIndex := BitVec.eq_of_toNat_eq (by rw [h.consumed, h.endIs, hk])
  refine ⟨{ s with cnt := s.cnt + 1#16, ifb := false, irOut := false }, ?_, ?_⟩
  · rw [h.tickRound_falls ha hb, fallingEdge_at_end (s := { s with cnt := s.cnt + 1#16, ifb := true }) hc]
  · exact { h with clearB := rfl, atEnd := hc, consumed := hk ▸ h.consumed, low := rfl }

/-! ### From the first round to the last -/

theorem slotSamples_length (h : AwaitsEdge p t k g s) :
    (slotSamples p.table t).length = (p.table.countOf t).toNat :=
  length_slotSamples h.table_wf h.present

/-- After `j` rounds short of the last edge, the edges up to the time `j` are behind, and the next is where the samples
put it. -/
theorem after_rounds (h : AwaitsEdge p t 0 d s) (hd : 1 ≤ d) (j : Nat) (hj : j < d + slotTicks p.table t) :
    ∃ k g, k ≤ (slotSamples p.table t).length ∧ 1 ≤ g ∧ j + g = edgeTime d (slotSamples p.table t) k ∧
      (∀ i < k, edgeTime d (slotSamples p.table t) i ≤ j) ∧ AwaitsEdge p t k g (tickRound^[j] s) := by
  induction j with
  | zero => exact ⟨0, d, Nat.zero_le _, hd, by simp [edgeTime], nofun, h⟩
  | succ j ih =>
    obtain ⟨k, g, hk, hg, htime, hpast, hs⟩ := ih (Nat.lt_of_succ_lt hj)
    rw [Function.iterate_succ_apply']
    obtain rfl | hfar := hg.eq_or_lt
    · have hlt : k < (slotSamples p.table t).length := by
        refine hk.lt_of_ne fun hend => ?_
        rw [hend, edgeTime_end] at htime
        omega
      obtain ⟨v, hv, h1, hs⟩ := hs.round_edge (h.slotSamples_length ▸ hlt)
      refine ⟨k + 1, 2 * v, hlt, by omega, by rw [edgeTime_succ hv, htime], fun i hi => ?_, hs⟩
      exact htime ▸ edgeTime_mono _ _ (Nat.le_of_lt_succ hi)
    · obtain ⟨g, rfl⟩ : ∃ n, g = n + 1 := ⟨g - 1, by omega⟩
      exact ⟨k, g, hk, by omega, by omega, fun i hi => (hpast i hi).trans j.le_succ, hs.round_far (by omega)⟩

/-- The waveform law, for the slot already begun. -/
theorem irOut_after_rounds (h : AwaitsEdge p t 0 d s) (hd : 1 ≤ d) (j : Nat) (hj : j < d + slotTicks p.table t) :
    (tickRound^[j] s).irOut = true ↔ MarkAt d (slotSamples p.table t) j := by
  obtain ⟨k, g, hk, hg, htime, hpast, hs⟩ := h.after_rounds hd j hj
  rw [markAt_iff hk hpast (by omega), hs.line, hs.fallingNext, decide_eq_true_iff]

/-- The round of the last edge decides the end of the token. -/
theorem sent_after_rounds (h : AwaitsEdge p t 0 d s) (hd : 1 ≤ d) :
    ∃ u, tickRound^[d + slotTicks p.table t] s = endOfToken u ∧ TokenSent p t u := by
  obtain ⟨j, hj⟩ : ∃ j, d + slotTicks p.table t = j + 1 := ⟨d + slotTicks p.table t - 1, by omega⟩
  obtain ⟨k, g, hk, hg, htime, -, hs⟩ := h.after_rounds hd j (by omega)
  have hend := edgeTime_end d p.table t
  have hle := edgeTime_mono d (slotSamples p.table t) hk
  obtain rfl : g = 1 := by omega
  have hlast : k = (slotSamples p.table t).length := by
    by_contra hne
    have hlt := hk.lt_of_ne hne
    obtain ⟨v, hv, h1, -⟩ := hs.round_edge (h.slotSamples_length ▸ hlt)
    have hnext := edgeTime_mono d (slotSamples p.table t) (Nat.succ_le_of_lt hlt)
    rw [edgeTime_succ hv] at hnext
    omega
  rw [hj, Function.iterate_succ_apply']
  exact hs.round_end (hlast.trans h.slotSamples_length)

end AwaitsEdge

/-- Settles O30: the rounds from `begin_token` go from edge to edge, and the last edge finds all samples consumed. -/
theorem waveformLaw : Obligations.WaveformLaw := by
  intro s t d hf hifa hifb hir hd hd' hp
  have h := awaitsEdge_beginToken hf hifa hifb hir hd' hp
  simp only [ticks_eq_iterate, service_of_quiet h.dueEvent]
  obtain ⟨u, hu, sent⟩ := h.sent_after_rounds hd
  refine ⟨fun j hj => ?_, u, hu, sent.low, sent.token, sent.atEnd, sent.consumed⟩
  obtain rfl | hlt := hj.eq_or_lt
  · rw [hu, endOfToken_irOut, sent.low]
    exact iff_of_false nofun (not_markAt_of_end (edgeTime_end ..).le)
  · exact h.irOut_after_rounds hd j hlt

end Sys2Proof.Machine
end

section
/-! The frame that the Token Sequencer sends: the family 42_token_sequencer.md of the obligations. -/

namespace Sys2Proof

/-- A frame begins with a slot of even index (30_encoding.md R56). -/
theorem Eye.openingSlot_even (e : Eye) : e.openingSlot.toNat % 2 = 0 := by
  cases e <;> rfl

end Sys2Proof

namespace Sys2Proof.Machine

/-! ### The chain invariant under ticks -/

theorem ChainInv.after_performed {i : Instr} {s : State} (h : ChainInv s) : ChainInv (performed i s) := by
  unfold performed
  split
  · exact h
  · split
    · next hx => exact h.of_exec hx
    · exact h
    · exact h

theorem ChainInv.after_serviceOnce {s : State} (h : ChainInv s) : ChainInv (serviceOnce s) := by
  unfold serviceOnce
  split
  · exact h.after_performed
  · exact h

theorem ChainInv.after_rounds {s : State} (h : ChainInv s) (n : Nat) : ChainInv (tickRound^[n] s) := by
  induction n with
  | zero => exact h
  | succ n ih =>
    rw [Function.iterate_succ_apply']
    exact ih.after_performed.after_serviceOnce.after_serviceOnce

theorem ChainInv.dueEvent_of_stopped {s : State} (h : ChainInv s) (hr : s.run = false) : s.dueEvent = none := by
  obtain ⟨hifa, hifb, -⟩ := h.engine.stopped hr
  exact dueEvent_of_clear_flags hifa hifb

/-- A stopped timer holds (40_timers.md R70), fault or no fault. -/
theorem ChainInv.tickRound_of_stopped {s : State} (h : ChainInv s) (hr : s.run = false) : tickRound s = s := by
  have ht : performed .tick s = s := by
    by_cases hf : s.fault = none
    · rw [performed_tick_enabled hf (h.dueEvent_of_stopped hr), tickTimer_stopped hr]
    · exact performed_tick_disabled fun hq => hf hq.1
  rw [tickRound, ht, service_of_quiet (h.dueEvent_of_stopped hr)]

theorem ChainInv.rounds_of_stopped {s : State} (h : ChainInv s) (hr : s.run = false) (n : Nat) :
    tickRound^[n] s = s :=
  Function.iterate_fixed (h.tickRound_of_stopped hr) n

theorem ChainInv.ticks_of_stopped {s : State} (h : ChainInv s) (hr : s.run = false) (n : Nat) : ticks n s = s := by
  rw [ticks_eq_iterate, service_of_quiet (h.dueEvent_of_stopped hr), h.rounds_of_stopped hr]

/-! ### A frame start from idle -/

theorem startFrame_absent {s : State} (hr : s.run = false) (hp : s.table.countOf s.nextEye.openingSlot = 0#8) :
    startFrame s =
      { s with active := true, currentEye := s.nextEye, lastFrameTime := s.ms, synced := false } := by
  rw [startFrame_idle hr]
  exact beginToken_absent hp

theorem ChainInv.startFrame_of_stopped {s : State} (h : ChainInv s) (hr : s.run = false) : ChainInv (startFrame s) := by
  have hstaged : ChainInv { s with active := true, currentEye := s.nextEye, lastFrameTime := s.ms, synced := false } :=
    h.of_sameEngine (by constructor <;> rfl)
  by_cases hp : s.table.countOf s.nextEye.openingSlot = 0#8
  · rwa [startFrame_absent hr hp]
  · rw [startFrame_idle hr]
    exact hstaged.beginToken_of_stopped hr hp

/-- A frame sends its opening slot first, the pan delay ahead (43_sync_arbitrator.md R101). -/
theorem ChainInv.awaitsEdge_startFrame {s : State} (h : ChainInv s) (hf : s.fault = none) (hr : s.run = false)
    (hp : s.table.countOf s.nextEye.openingSlot ≠ 0#8) :
    AwaitsEdge s.params s.nextEye.openingSlot 0 s.params.panTicks (startFrame s) := by
  obtain ⟨hifa, hifb, hir⟩ := h.engine.stopped hr
  obtain ⟨-, hpan, -, -⟩ := Params.delays_of_wf s.registered
  rw [startFrame_idle hr]
  exact awaitsEdge_beginToken
    (s := { s with active := true, currentEye := s.nextEye, lastFrameTime := s.ms, synced := false })
    hf hifa hifb hir hpan hp

/-! ### What a frame shows at a tick -/

/-- A state of the chain whose line is high iff `high` and whose timer runs iff `going`, without a fault. -/
structure Shows (high going : Prop) (s : State) : Prop where
  inv : ChainInv s
  line : s.irOut = true ↔ high
  running : s.run = true ↔ going
  live : s.fault = none

theorem Shows.status {high going : Prop} {s : State} (h : Shows high going s) : s.statusFrame = true ↔ going := by
  rw [h.inv.engine.statusIsRun, h.running]

/-- Once ended, a frame shows a low line and a stopped timer for good. -/
theorem shows_endFrame {high going : Prop} {u : State} (hc : ChainInv (endFrame u)) (hlive : u.fault = none)
    (hlow : u.irOut = false) (hhigh : ¬high) (hgoing : ¬going) (n : Nat) :
    Shows high going (tickRound^[n] (endFrame u)) := by
  rw [hc.rounds_of_stopped rfl]
  exact ⟨hc, iff_of_false (Bool.eq_false_iff.mp hlow) hhigh, iff_of_false nofun hgoing, hlive⟩

namespace AwaitsEdge

variable {p : Params} {t : TokenIndex} {d : Nat} {s : State}

/-- While a slot is being sent, the line shows its waveform. -/
theorem shows_before_end (h : AwaitsEdge p t 0 d s) (hc : ChainInv s) (hd : 1 ≤ d) {j : Nat}
    (hj : j < d + slotTicks p.table t) : Shows (MarkAt d (slotSamples p.table t) j) True (tickRound^[j] s) := by
  obtain ⟨k, g, -, -, -, -, hs⟩ := h.after_rounds hd j hj
  exact ⟨hc.after_rounds j, h.irOut_after_rounds hd j hj, iff_of_true hs.running trivial, hs.live⟩

/-- A slot that none follows ends the frame with its last edge (42_token_sequencer.md R90, R91). -/
theorem shows_last (h : AwaitsEdge p t 0 d s) (hc : ChainInv s) (hd : 1 ≤ d)
    (hlast : t.toNat % 2 = 1 ∨ p.table.countOf (t + 1#2) = 0#8) (j : Nat) :
    Shows (MarkAt d (slotSamples p.table t) j) (j < d + slotTicks p.table t) (tickRound^[j] s) := by
  obtain hj | hj := lt_or_ge j (d + slotTicks p.table t)
  · simpa only [hj] using h.shows_before_end hc hd hj
  · obtain ⟨u, hu, sent⟩ := h.sent_after_rounds hd
    rw [endOfToken_ends (by rw [table_eq, sent.params, sent.token]; exact hlast)] at hu
    have hend : ChainInv (endFrame u) := hu ▸ hc.after_rounds _
    rw [← Nat.sub_add_cancel hj, Function.iterate_add_apply, hu, Nat.sub_add_cancel hj]
    exact shows_endFrame hend sent.live sent.low (not_markAt_of_end (by rwa [edgeTime_end])) hj.not_gt _

/-- The last edge of an opening slot begins its present closing slot, the gap ahead (42_token_sequencer.md R90). -/
theorem closing_after_rounds (h : AwaitsEdge p t 0 d s) (hd : 1 ≤ d) (ht : t.toNat % 2 = 0)
    (hp : p.table.countOf (t + 1#2) ≠ 0#8) :
    AwaitsEdge p (t + 1#2) 0 p.gapTicks (tickRound^[d + slotTicks p.table t] s) := by
  obtain ⟨u, hu, sent⟩ := h.sent_after_rounds hd
  obtain ⟨hlive, -, hifa, hifb, rfl, rfl, -, -, hlow⟩ := sent
  obtain ⟨-, -, -, hgap⟩ := Params.delays_of_wf u.registered
  rw [hu, endOfToken_chains ht hp]
  exact awaitsEdge_beginToken (s := { u with ieb := false }) hlive hifa hifb hlow hgap hp

/-- An opening slot with its closing slot present: the one waveform, then the other, then the end of the frame. -/
theorem shows_opening_and_closing (h : AwaitsEdge p t 0 d s) (hc : ChainInv s) (hd : 1 ≤ d) (ht : t.toNat % 2 = 0)
    (hp : p.table.countOf (t + 1#2) ≠ 0#8) (j : Nat) :
    Shows
      (MarkAt d (slotSamples p.table t) j ∨
        d + slotTicks p.table t ≤ j ∧
          MarkAt p.gapTicks (slotSamples p.table (t + 1#2)) (j - (d + slotTicks p.table t)))
      (j < d + slotTicks p.table t + p.gapTicks + slotTicks p.table (t + 1#2)) (tickRound^[j] s) := by
  obtain hj | hj := lt_or_ge j (d + slotTicks p.table t)
  · have hgoing : j < d + slotTicks p.table t + p.gapTicks + slotTicks p.table (t + 1#2) := by omega
    simpa only [hj.not_ge, hgoing, false_and, or_false] using h.shows_before_end hc hd hj
  · obtain ⟨i, rfl⟩ := Nat.exists_eq_add_of_le hj
    have hopening : ¬MarkAt d (slotSamples p.table t) (d + slotTicks p.table t + i) :=
      not_markAt_of_end (by rwa [edgeTime_end])
    have hclosing := h.closing_after_rounds hd ht hp
    obtain ⟨-, -, hgap, -⟩ := Params.delays_of_wf (p := p) (h.params ▸ s.registered)
    have hshows := hclosing.shows_last (hc.after_rounds _) hgap (.inl (by bv_omega)) i
    rw [← Function.iterate_add_apply, Nat.add_comm i] at hshows
    simpa only [hopening, hj, true_and, false_or, Nat.add_sub_cancel_left, Nat.add_assoc (d + slotTicks p.table t),
      Nat.add_lt_add_iff_left] using hshows

end AwaitsEdge

/-- Settles O31: an absent opening slot leaves the block stopped; otherwise the frame ends with its opening slot or goes
on to its closing slot. -/
theorem frameLaw : Obligations.FrameLaw := by
  intro s hc hf hr A B T endA lastTick j
  have hstart := hc.startFrame_of_stopped hr
  refine ⟨fun hA => ?_, fun hA => ?_⟩
  · have hstopped : (startFrame s).run = false := by rw [startFrame_absent hr hA, hr]
    obtain ⟨-, -, hlow⟩ := hstart.engine.stopped hstopped
    rw [hstart.ticks_of_stopped hstopped]
    exact ⟨hlow, hstopped⟩
  · have hopening := hc.awaitsEdge_startFrame hf hr hA
    obtain ⟨hpan, -, -, -⟩ := Params.delays_of_wf s.registered
    have hshows : Shows
        (MarkAt s.params.panTicks (slotSamples T A) j ∨
          (T.countOf B ≠ 0#8 ∧ endA ≤ j ∧ MarkAt s.params.gapTicks (slotSamples T B) (j - endA)))
        (j < lastTick) (ticks j (startFrame s)) := by
      rw [ticks_eq_iterate, service_of_quiet hopening.dueEvent]
      by_cases hB : T.countOf B = 0#8
      · simpa only [lastTick, hB, if_true, ne_eq, not_true, false_and, or_false]
          using hopening.shows_last hstart hpan (.inr hB) j
      · simpa only [lastTick, hB, if_false, ne_eq, not_false_eq_true, true_and]
          using hopening.shows_opening_and_closing hstart hpan s.nextEye.openingSlot_even hB j
    exact ⟨hshows.line, hshows.running, hshows.status, hshows.live⟩

end Sys2Proof.Machine
end

section
/-! The Sync Arbitrator's frame start, triggers, polls and mode: the family 43_sync_arbitrator.md of the obligations. -/

namespace Sys2Proof

/-! ### The value codes -/

@[simp] theorem Eye.other_other (e : Eye) : e.other.other = e := by
  cases e <;> rfl

@[simp] theorem Mode.ofCode_code (m : Mode) : Mode.ofCode m.code = some m := by
  cases m <;> rfl

/-- Codes from 5 up select no mode (30_encoding.md R57). -/
theorem Mode.ofCode_of_four_lt {c : Byte} (h : 4 < c.toNat) : Mode.ofCode c = Option.none := by
  have hc : c ≠ 0#8 ∧ c ≠ 1#8 ∧ c ≠ 2#8 ∧ c ≠ 3#8 ∧ c ≠ 4#8 := by bv_omega
  simp [Mode.ofCode, hc]

theorem Mode.requiresExternal_eq (m : Mode) : m.requiresExternal = decide (m = .external ∨ m = .combined) := by
  cases m <;> rfl

end Sys2Proof

namespace Sys2Proof.Machine

/-! ### A frame start from idle -/

@[simp] theorem startFrame_active_of_stopped {s : State} (hr : s.run = false) : (startFrame s).active = true := by
  simp [startFrame_idle hr]

@[simp] theorem startFrame_synced_of_stopped {s : State} (hr : s.run = false) : (startFrame s).synced = false := by
  simp [startFrame_idle hr]

@[simp] theorem startFrame_lastFrameTime_of_stopped {s : State} (hr : s.run = false) :
    (startFrame s).lastFrameTime = s.ms := by
  simp [startFrame_idle hr]

@[simp] theorem startFrame_currentEye_of_stopped {s : State} (hr : s.run = false) :
    (startFrame s).currentEye = s.nextEye := by
  simp [startFrame_idle hr]

@[simp] theorem startFrame_fault_of_stopped {s : State} (hr : s.run = false) : (startFrame s).fault = s.fault := by
  simp [startFrame_idle hr]

/-- The opening slot begins with the timer at 0, the pan delay ahead (R101). -/
theorem startFrame_present {s : State} (hr : s.run = false) (hp : s.table.countOf s.nextEye.openingSlot ≠ 0#8) :
    startFrame s =
      { s with
        active := true
        currentEye := s.nextEye
        lastFrameTime := s.ms
        synced := false
        currentToken := s.nextEye.openingSlot
        cursor := s.table.startOf s.nextEye.openingSlot
        endIndex := s.table.startOf s.nextEye.openingSlot + s.table.countOf s.nextEye.openingSlot
        cnt := 0#16
        run := true
        ocra := BitVec.ofNat 16 s.params.panTicks
        iea := true
        ieb := false
        statusFrame := true } := by
  rw [startFrame_idle hr, beginToken_present
    (s := { s with active := true, currentEye := s.nextEye, lastFrameTime := s.ms, synced := false }) hp]
  simp [hr]

/-- Settles O32: `set_eye` by definition, `start_frame` in its three branches. -/
theorem stageAndStartFrame : Obligations.StageAndStartFrame := fun _ _ =>
  ⟨rfl, startFrame_overlap, startFrame_absent, startFrame_present⟩

/-- Settles O44: the frame takes the eye that `set_eye` staged. -/
theorem stagedEyeIsTheNextFramesEye : Obligations.StagedEyeIsTheNextFramesEye := fun _ _ hr =>
  ⟨startFrame_currentEye_of_stopped hr, startFrame_synced_of_stopped hr⟩

/-! ### Authorized triggers -/

/-- Settles O40: an authorized trigger is a frame start from a state that differs in the line's level and the staging. -/
theorem authorizedTriggerStartsAFrame : Obligations.AuthorizedTriggerStartsAFrame := by
  intro i s ha hr
  obtain ⟨e, l, b, r, hrs, hx⟩ := exec_of_authorizes ha
  have hsame : SameEngine s r := by subst hrs; constructor <;> rfl
  have hfault : r.fault = s.fault := by rw [hrs]
  have hms : r.ms = s.ms := by rw [hrs]
  have hstop : r.run = false := hsame.run.trans hr
  have heye := startFrame_currentEye_of_stopped hstop
  simp only [State.table, ← hsame.params]
  refine ⟨startFrame r, hx, (startFrame_fault_of_stopped hstop).trans hfault, startFrame_active_of_stopped hstop,
    startFrame_synced_of_stopped hstop, (startFrame_lastFrameTime_of_stopped hstop).trans hms,
    heye.trans (startFrame_nextEye r).symm, ?_⟩
  rw [heye]
  constructor
  · intro habsent
    rw [startFrame_absent hstop habsent]
    exact ⟨hstop, hsame.statusFrame, hsame.irOut⟩
  · intro hpresent
    rw [startFrame_present hstop hpresent]
    exact ⟨rfl, rfl, rfl, rfl, rfl, rfl, rfl⟩

/-- The kind of an authorized trigger determines the mode and is determined by it (R112). -/
theorem AuthorizesFrame.kind {i : Instr} {s : State} (h : AuthorizesFrame i s) :
    ((∃ m sel, i = .pkt m sel) ↔ s.mode = .driver) ∧
    ((∃ l, i = .syncin l) ↔ s.mode = .external ∨ s.mode = .combined) ∧
    (i = .pollf ↔ s.mode = .freerun) := by
  cases i with
  | syncin l => obtain ⟨-, -, hm | ⟨hm, -⟩⟩ := h <;> simp [hm]
  | pkt m sel => simp [h.2]
  | pollf => simp [h.1]
  | tick => cases h
  | mstick => cases h
  | mode c => cases h
  | swap => cases h
  | polll => cases h
  | memrd a b => cases h
  | memwr a b => cases h
  | memclr a b => cases h
  | compa => cases h
  | compb => cases h

/-- Settles O42: the only writer of each of the three marks is an authorized trigger. -/
theorem oneTriggerKindPerMode : Obligations.OneTriggerKindPerMode := by
  intro i s t hx hmark
  obtain ⟨heye, htime, -, -, -, -, hactive, -⟩ := onlyWritersOfTheArbiterElements i s t hx
  have ha : AuthorizesFrame i s := hmark.elim (fun h => hactive h.1 h.2) (Or.elim · heye htime)
  exact ⟨ha, ha.kind⟩

/-! ### `SYNCIN` and the external edge -/

/-- Without an enabled edge in a mode that listens to it, the level alone is recorded (R102, R103). -/
theorem exec_syncin_recorded {l : Bool} {s : State}
    (h : l = s.syncIn ∨ s.extIe = false ∨ s.mode.requiresExternal = false) :
    exec (.syncin l) s = .next { s with syncIn := l } := by
  obtain ⟨-, e⟩ | ⟨hl, hx, e⟩ := execSyncin_cases l s
  · exact e
  · have hdeaf : s.mode.requiresExternal = false := by simpa [Ne.symm hl, hx] using h
    rw [exec, e]
    simp [extEdge, hdeaf]

section
variable {l : Bool} {s : State} (hl : l ≠ s.syncIn) (hx : s.extIe = true)
include hl hx

theorem exec_syncin_external (hm : s.mode = .external) :
    exec (.syncin l) s = .next (startFrame (setEye (s.params.levelEye l) { s with syncIn := l })) := by
  simp [exec, execSyncin, extEdge, hl.symm, hx, hm, Mode.requiresExternal]

theorem exec_syncin_staged (hm : s.mode = .combined) (hs : s.synced = true) :
    exec (.syncin l) s = .next (startFrame { s with syncIn := l }) := by
  simp [exec, execSyncin, extEdge, hl.symm, hx, hm, hs, Mode.requiresExternal]

theorem exec_syncin_unstaged (hm : s.mode = .combined) (hs : s.synced = false) :
    exec (.syncin l) s =
      .next (if s.params.combinedEdgeStartsUnstaged = true then
        startFrame (setEye (s.params.levelEye l) { s with syncIn := l })
      else setEye (s.params.levelEye l) { s with syncIn := l }) := by
  simp [exec, execSyncin, extEdge, hl.symm, hx, hm, hs, Mode.requiresExternal]

end

/-- Settles O33: no edge to listen to, or an edge in its three cases. -/
theorem syncinRule : Obligations.SyncinRule := fun _ _ =>
  ⟨exec_syncin_recorded, exec_syncin_external, exec_syncin_staged, exec_syncin_unstaged⟩

/-- Settles O46: the first edge finds nothing staged and stages its level's eye, the second finds it staged. -/
theorem combinedEdgesAlternatelyStageAndStart : Obligations.CombinedEdgesAlternatelyStageAndStart := by
  intro s hm hx hs hr hp
  have hfirst := exec_syncin_unstaged (Bool.not_ne_self s.syncIn) hx hm hs
  rw [hp, if_neg Bool.false_ne_true] at hfirst
  exact ⟨_, _, hfirst, exec_syncin_staged (Bool.self_ne_not s.syncIn) hx hm rfl, rfl, hr, rfl, rfl,
    startFrame_active_of_stopped hr, startFrame_synced_of_stopped hr, startFrame_fault_of_stopped hr,
    startFrame_lastFrameTime_of_stopped hr, startFrame_currentEye_of_stopped hr⟩

/-! ### `PKT` -/

theorem exec_pkt_ignored {m sel : Byte} {s : State}
    (h : m ≠ s.params.hostMarker ∨ (s.mode ≠ .driver ∧ s.mode ≠ .combined)) : exec (.pkt m sel) s = .next s := by
  obtain ⟨-, e⟩ | ⟨hk, hm, -⟩ | ⟨hk, hm, -⟩ := execPkt_cases m sel s
  · exact e
  · simp [hk, hm] at h
  · simp [hk, hm] at h

theorem exec_pkt_driver {m sel : Byte} {s : State} (hk : m = s.params.hostMarker) (hm : s.mode = .driver) :
    exec (.pkt m sel) s = .next (startFrame (setEye (s.params.selectorEye sel) s)) := by
  simp [exec, execPkt, hk, hm, Mode.requiresDriver]

theorem exec_pkt_combined {m sel : Byte} {s : State} (hk : m = s.params.hostMarker) (hm : s.mode = .combined) :
    exec (.pkt m sel) s = .next (setEye (s.params.selectorEye sel) s) := by
  simp [exec, execPkt, hk, hm, Mode.requiresDriver]

/-- Settles O34: ignored, in `DRIVER` and in `COMBINED`. -/
theorem pktRule : Obligations.PktRule := fun _ _ _ =>
  ⟨exec_pkt_ignored, exec_pkt_driver, exec_pkt_combined⟩

/-! ### The polls -/

/-- The word difference is the true elapsed time as long as that is below `2^32` (70_reset_and_hazards.md R154). -/
theorem elapsedMs_of_ms {s : State} {e : Nat} (he : e < 2 ^ 32) (h : s.ms = s.lastFrameTime + BitVec.ofNat 32 e) :
    s.elapsedMs = e := by
  unfold State.elapsedMs
  bv_omega

theorem exec_pollf_ignored {s : State} (h : s.mode ≠ .freerun ∨ s.elapsedMs < s.params.freerunPeriodMs) :
    exec .pollf s = .next s := by
  obtain ⟨-, e⟩ | ⟨hm, hp, -⟩ := execPollf_cases s
  · exact e
  · exact absurd h (not_or.mpr ⟨not_not.mpr hm, (of_decide_eq_true hp).not_gt⟩)

theorem exec_pollf_starts {s : State} (hm : s.mode = .freerun) (hp : s.params.freerunPeriodMs ≤ s.elapsedMs) :
    exec .pollf s = .next (startFrame { s with nextEye := s.currentEye.other }) := by
  simp [exec, execPollf, State.periodReached, hm, hp]

/-- Settles O35: the poll compares the true elapsed time with the period. -/
theorem pollfRule : Obligations.PollfRule := by
  intro s e he hms
  rw [← elapsedMs_of_ms he hms]
  exact ⟨exec_pollf_ignored, exec_pollf_starts⟩

/-- Settles O45: each of the two frames takes the complement of the eye before it. -/
theorem freerunAlternatesTheEye : Obligations.FreerunAlternatesTheEye := by
  intro s t u v hm hp hr hst hmu _ heye hru hpu huv
  cases (exec_pollf_starts hm hp).symm.trans hst
  have hfree : u.mode = .freerun := by simpa [hm] using hmu
  cases (exec_pollf_starts hfree hpu).symm.trans huv
  have hflip : u.currentEye = s.currentEye.other := by simpa [hr] using heye
  simp [hr, hru, hflip]

theorem exec_polll_ignored {s : State} (h : s.active = false ∨ s.elapsedMs < s.params.timeoutMs) :
    exec .polll s = .next s := by
  obtain ⟨-, e⟩ | ⟨ha, hp, -⟩ := execPolll_cases s
  · exact e
  · exact absurd h (not_or.mpr ⟨ne_false_of_eq_true ha, (of_decide_eq_true hp).not_gt⟩)

theorem exec_polll_expired {s : State} (ha : s.active = true) (hp : s.params.timeoutMs ≤ s.elapsedMs) :
    exec .polll s = .next { s with active := false } := by
  simp [exec, execPolll, State.timeoutReached, ha, hp]

/-- Settles O36: after the timeout the device is inactive, which the second poll finds. -/
theorem polllRule : Obligations.PolllRule := by
  intro s e he hms
  rw [← elapsedMs_of_ms he hms]
  exact ⟨exec_polll_ignored, fun ha hp => ⟨exec_polll_expired ha hp, exec_polll_ignored (.inl rfl)⟩⟩

/-! ### `MODE`, `SWAP` and the memory-block requests -/

theorem exec_mode_ignored {c : Byte} {s : State} (hc : Mode.ofCode c = none) : exec (.mode c) s = .next s := by
  simp [exec, execMode, hc]

theorem exec_mode_selected {c : Byte} {m : Mode} {s : State} (hc : Mode.ofCode c = some m) :
    exec (.mode c) s = .next (selectMode m s) := by
  simp [exec, execMode, hc]

/-- Settles O37: the code's byte is read as a mode or as none. -/
theorem modeRule : Obligations.ModeRule := by
  refine fun c s => ⟨fun hc => exec_mode_ignored (Mode.ofCode_of_four_lt hc), fun m hc => ?_⟩
  rw [exec_mode_selected (hc ▸ Mode.ofCode_code m), selectMode, Mode.requiresExternal_eq]
  rfl

/-- Settles O38: the toggle is its own inverse. -/
theorem swapRule : Obligations.SwapRule := fun s =>
  ⟨{ s with swapEyes := !s.swapEyes }, rfl, Bool.not_ne_self _, rfl, by simp [exec, execSwap]⟩

/-- Settles O39: each of the three answers the state it was given. -/
theorem memoryRequestsPassThrough : Obligations.MemoryRequestsPassThrough := fun _ _ _ => ⟨rfl, rfl, rfl⟩

/-! ### Staging is confined to `COMBINED` -/

@[simp] theorem risingEdge_synced (s : State) : (risingEdge s).synced = s.synced := by
  obtain ⟨-, e⟩ | ⟨v, -, e⟩ := risingEdge_cases s <;> rw [e]
  rfl

@[simp] theorem risingEdge_mode (s : State) : (risingEdge s).mode = s.mode := by
  obtain ⟨-, e⟩ | ⟨v, -, e⟩ := risingEdge_cases s <;> rw [e]
  rfl

@[simp] theorem fallingEdge_synced (s : State) : (fallingEdge s).synced = s.synced := by
  obtain ⟨-, e⟩ | ⟨-, -, e⟩ | ⟨-, v, -, e⟩ := fallingEdge_cases s <;> rw [e]
  · exact endOfToken_synced _
  · rfl

@[simp] theorem fallingEdge_mode (s : State) : (fallingEdge s).mode = s.mode := by
  obtain ⟨-, e⟩ | ⟨-, -, e⟩ | ⟨-, v, -, e⟩ := fallingEdge_cases s <;> rw [e]
  · exact endOfToken_mode _
  · rfl

/-- A frame start takes the staging back, unless it overlaps, which is a fault (R101). -/
theorem startFrame_unstaged_or_fault (s : State) : (startFrame s).synced = false ∨ (startFrame s).fault ≠ none := by
  cases hr : s.run with
  | true => exact .inr (by simp [startFrame_overlap hr])
  | false => exact .inl (startFrame_synced_of_stopped hr)

theorem StagedOnlyInCombined.of_kept {s t : State} (h : StagedOnlyInCombined s) (hf : s.fault = none)
    (hs : t.synced = s.synced) (hm : t.mode = s.mode) : StagedOnlyInCombined t :=
  fun _ hstaged => hm.trans (h hf (hs.symm.trans hstaged))

theorem StagedOnlyInCombined.of_exec {i : Instr} {s t : State} (h : StagedOnlyInCombined s) (hf : s.fault = none)
    (hx : exec i s = .next t) : StagedOnlyInCombined t := by
  cases did_of_exec hx with
  | nothing ht => exact ht ▸ h
  | ticked hi ha hb ht => exact ht ▸ h.of_kept hf (tickTimer_synced s) (tickTimer_mode s)
  | clocked hi ht => exact ht ▸ h.of_kept hf rfl rfl
  | rose hi hd ht => exact ht ▸ h.of_kept hf (risingEdge_synced s) (risingEdge_mode s)
  | fell hi hd ht => exact ht ▸ h.of_kept hf (fallingEdge_synced s) (fallingEdge_mode s)
  | recorded l hi ht => exact ht ▸ h.of_kept hf rfl rfl
  | selected c m hi hc ht => exact ht ▸ nofun
  | swapped hi ht => exact ht ▸ h.of_kept hf rfl rfl
  | expired hi ht => exact ht ▸ h.of_kept hf rfl rfl
  | staged e l hm hi ht => exact ht ▸ fun _ _ => hm
  | started e l b ha hi r hr ht =>
    subst ht
    intro hlive hstaged
    obtain hun | hfault := startFrame_unstaged_or_fault r
    · simp [hun] at hstaged
    · exact absurd hlive hfault

/-- Settles O5: an operation keeps the confinement by what it did, and the list of words is no part of it. -/
theorem stepKeepsStagingInCombined : Obligations.StepKeepsStagingInCombined := by
  intro s t h hs
  obtain ⟨hf, ⟨i, rest, hx⟩ | ⟨rest, rfl⟩⟩ := step_next_cases hs
  · exact StagedOnlyInCombined.of_exec (s := { s with trace := rest }) h hf hx
  · exact h

/-! ### `FREERUN` does not look at the swap -/

section
variable (b : Bool) (s : State)

theorem beginToken_with_swap (t : TokenIndex) (d : Nat) :
    beginToken t d { s with swapEyes := b } = { beginToken t d s with swapEyes := b } := by
  by_cases hp : s.table.countOf t = 0#8
  · rw [beginToken_absent hp, beginToken_absent (s := { s with swapEyes := b }) hp]
  · rw [beginToken_present hp, beginToken_present (s := { s with swapEyes := b }) hp]

theorem startFrame_with_swap : startFrame { s with swapEyes := b } = { startFrame s with swapEyes := b } := by
  by_cases hr : s.run = true
  · rw [startFrame_overlap hr, startFrame_overlap (s := { s with swapEyes := b }) hr]
    rfl
  · rw [Bool.not_eq_true] at hr
    rw [startFrame_idle hr, startFrame_idle (s := { s with swapEyes := b }) hr]
    exact beginToken_with_swap b
      { s with active := true, currentEye := s.nextEye, lastFrameTime := s.ms, synced := false } _ _

theorem endOfToken_with_swap : endOfToken { s with swapEyes := b } = { endOfToken s with swapEyes := b } := by
  by_cases hnext : s.currentToken.toNat % 2 = 0 ∧ s.table.countOf (s.currentToken + 1#2) ≠ 0#8
  · obtain ⟨ht, hp⟩ := hnext
    rw [endOfToken_chains ht hp]
    exact (endOfToken_chains (s := { s with swapEyes := b }) ht hp).trans
      (beginToken_with_swap b { s with ieb := false } _ _)
  · have hlast := (not_and_or.mp hnext).imp Nat.mod_two_ne_zero.mp not_not.mp
    rw [endOfToken_ends hlast]
    exact endOfToken_ends (s := { s with swapEyes := b }) hlast

theorem risingEdge_with_swap : risingEdge { s with swapEyes := b } = { risingEdge s with swapEyes := b } := by
  cases h : s.params.table.sampleAt s.cursor <;> simp [risingEdge, h, raise]

theorem fallingEdge_with_swap : fallingEdge { s with swapEyes := b } = { fallingEdge s with swapEyes := b } := by
  by_cases hc : s.cursor = s.endIndex
  · rw [fallingEdge_at_end hc, ← endOfToken_with_swap]
    exact fallingEdge_at_end (s := { s with swapEyes := b }) hc
  · cases h : s.params.table.sampleAt s.cursor <;> simp [fallingEdge, hc, h, raise]

theorem tickTimer_with_swap : tickTimer { s with swapEyes := b } = { tickTimer s with swapEyes := b } := by
  cases hr : s.run <;> simp [tickTimer, hr]

end

/-- In `FREERUN` no operation but `SWAP` itself reads or writes the swap (R105, R108). -/
theorem exec_with_swap {i : Instr} {s t : State} (b : Bool) (hm : s.mode = .freerun) (hi : i ≠ .swap)
    (hx : exec i s = .next t) : exec i { s with swapEyes := b } = .next { t with swapEyes := b } := by
  cases i with
  | tick =>
    obtain ⟨ha, hb, rfl⟩ := execTick_next hx
    rw [← tickTimer_with_swap]
    exact exec_tick_enabled (s := { s with swapEyes := b }) (dueEvent_none.mpr ⟨ha, hb⟩)
  | mstick => cases hx; rfl
  | syncin l =>
    have hdeaf : s.mode.requiresExternal = false := by rw [hm]; rfl
    cases (exec_syncin_recorded (.inr (.inr hdeaf))).symm.trans hx
    exact exec_syncin_recorded (s := { s with swapEyes := b }) (.inr (.inr hdeaf))
  | pkt m sel =>
    have hout : s.mode ≠ .driver ∧ s.mode ≠ .combined := by simp [hm]
    cases (exec_pkt_ignored (.inr hout)).symm.trans hx
    exact exec_pkt_ignored (s := { s with swapEyes := b }) (.inr hout)
  | mode c =>
    cases hc : Mode.ofCode c with
    | none => cases (exec_mode_ignored hc).symm.trans hx; exact exec_mode_ignored hc
    | some m => cases (exec_mode_selected hc).symm.trans hx; exact exec_mode_selected hc
  | swap => exact absurd rfl hi
  | pollf =>
    obtain hp | hp := lt_or_ge s.elapsedMs s.params.freerunPeriodMs
    · cases (exec_pollf_ignored (.inr hp)).symm.trans hx
      exact exec_pollf_ignored (s := { s with swapEyes := b }) (.inr hp)
    · cases (exec_pollf_starts hm hp).symm.trans hx
      rw [← startFrame_with_swap]
      exact exec_pollf_starts (s := { s with swapEyes := b }) hm hp
  | polll =>
    by_cases hp : s.active = false ∨ s.elapsedMs < s.params.timeoutMs
    · cases (exec_polll_ignored hp).symm.trans hx
      exact exec_polll_ignored (s := { s with swapEyes := b }) hp
    · obtain ⟨ha, ht⟩ : s.active = true ∧ s.params.timeoutMs ≤ s.elapsedMs := by simpa using hp
      cases (exec_polll_expired ha ht).symm.trans hx
      exact exec_polll_expired (s := { s with swapEyes := b }) ha ht
  | memrd x y => cases hx; rfl
  | memwr x y => cases hx; rfl
  | memclr x y => cases hx; rfl
  | compa =>
    obtain ⟨hd, rfl⟩ := execCompa_next hx
    rw [← risingEdge_with_swap]
    exact exec_compa_of_due (s := { s with swapEyes := b }) hd
  | compb =>
    obtain ⟨hd, rfl⟩ := execCompb_next hx
    rw [← fallingEdge_with_swap]
    exact exec_compb_of_due (s := { s with swapEyes := b }) hd

/-- Settles O48: `SWAP` toggles both, and every other operation leaves the swap of both. -/
theorem swapDoesNotEnterFreerun : Obligations.SwapDoesNotEnterFreerun := by
  intro i s t hm hx
  by_cases hi : i = .swap
  · subst hi; cases hx; rfl
  · obtain ⟨-, -, -, hswap, -⟩ := onlyWritersOfTheArbiterElements i s t hx
    rw [show t.swapEyes = s.swapEyes from not_not.mp (mt hswap hi)]
    exact exec_with_swap _ hm hi hx

end Sys2Proof.Machine
end

section
/-! The faults, the order of an edge and a handler, and the outputs: the family 60_exceptions.md of the obligations. -/

namespace Sys2Proof.Machine

/-! ### What an operation does to the fault element -/

theorem risingEdge_fault_cases (s : State) :
    (risingEdge s).fault = s.fault ∨ (risingEdge s).fault = some .tableBounds := by
  obtain ⟨-, e⟩ | ⟨v, -, e⟩ := risingEdge_cases s <;> rw [e]
  · exact .inr rfl
  · exact .inl rfl

theorem fallingEdge_fault_cases (s : State) :
    (fallingEdge s).fault = s.fault ∨ (fallingEdge s).fault = some .tableBounds := by
  obtain ⟨-, e⟩ | ⟨-, -, e⟩ | ⟨-, v, -, e⟩ := fallingEdge_cases s <;> rw [e]
  · exact .inl (endOfToken_fault _)
  · exact .inr rfl
  · exact .inl rfl

/-- R126, from every state: beside a handler that reads outside the table, only an authorized trigger under an active
chain raises a fault. -/
theorem fault_of_exec {i : Instr} {s t : State} (hx : exec i s = .next t) :
    t.fault = s.fault ∨
    ((i = .compa ∨ i = .compb) ∧ t.fault = some .tableBounds) ∨
    (s.run = true ∧ AuthorizesFrame i s ∧ t.fault = some .frameOverlap) := by
  cases did_of_exec hx with
  | nothing ht => exact .inl (ht ▸ rfl)
  | ticked hi ha hb ht => exact .inl (ht ▸ tickTimer_fault s)
  | clocked hi ht => exact .inl (ht ▸ rfl)
  | rose hi hd ht => exact ht ▸ (risingEdge_fault_cases s).imp_right fun e => .inl ⟨.inl hi, e⟩
  | fell hi hd ht => exact ht ▸ (fallingEdge_fault_cases s).imp_right fun e => .inl ⟨.inr hi, e⟩
  | recorded l hi ht => exact .inl (ht ▸ rfl)
  | selected c m hi hc ht => exact .inl (ht ▸ rfl)
  | swapped hi ht => exact .inl (ht ▸ rfl)
  | expired hi ht => exact .inl (ht ▸ rfl)
  | staged e l hm hi ht => exact .inl (ht ▸ rfl)
  | started e l b ha hi r hr ht =>
    have hfault : r.fault = s.fault := by rw [hr]
    have hsame : r.run = s.run := by rw [hr]
    cases hrun : r.run with
    | true => exact .inr (.inr ⟨hsame.symm.trans hrun, ha, ht ▸ congrArg State.fault (startFrame_overlap hrun)⟩)
    | false => exact .inl (ht ▸ (startFrame_fault_of_stopped hrun).trans hfault)

/-- Settles O41: the overlap is the one fault of a trigger, and a trigger that overlaps answers no other state. -/
theorem frameOverlapExactlyOnOverlap : Obligations.FrameOverlapExactlyOnOverlap := by
  intro i s t hs hx
  constructor
  · intro ht
    obtain e | ⟨-, e⟩ | ⟨hr, ha, -⟩ := fault_of_exec hx
    · exact absurd (e.symm.trans ht) hs
    · cases e.symm.trans ht
    · exact ⟨hr, ha⟩
  · rintro ⟨hr, ha⟩
    obtain ⟨u, hu, hfault⟩ := authorized_overlaps hr ha
    cases hu.symm.trans hx
    exact hfault

/-! ### An edge at the frame's last falling edge -/

/-- The last falling edge of a frame ends it (42_token_sequencer.md R90, R91). -/
theorem exec_compb_ends_frame {s : State} (hd : s.compbDue = true) (hc : s.cursor = s.endIndex)
    (hlast : s.currentToken.toNat % 2 = 1 ∨ s.table.countOf (s.currentToken + 1#2) = 0#8) :
    exec .compb s = .next (endFrame { s with ifb := false, irOut := false }) := by
  rw [exec_compb_of_due hd, fallingEdge_at_end hc]
  exact congrArg _ (endOfToken_ends (s := { s with ifb := false, irOut := false }) hlast)

/-- Settles O47: before `COMPB` the chain is active, so that the edge overlaps; after it the timer is stopped. -/
theorem orderOfEdgeAndLastHandlerMatters : Obligations.OrderOfEdgeAndLastHandlerMatters := by
  intro l s h hf hd hc hlast hm hl
  have hx : s.extIe = true := by rw [h.engine.edgeEnable, hm]; rfl
  have hr : s.run = true := h.engine.run_of_ieb (compbDue_iff.mp hd).2
  have hedge := exec_syncin_external (s := endFrame { s with ifb := false, irOut := false }) hl hx hm
  exact ⟨authorized_overlaps hr ⟨hl, hx, .inl hm⟩, _, _, exec_compb_ends_frame hd hc hlast, hedge,
    (startFrame_fault_of_stopped rfl).trans hf, startFrame_active_of_stopped rfl, startFrame_currentEye_of_stopped rfl⟩

/-! ### The outputs -/

theorem phase_mark_iff {s : State} : s.phase = .transmittingMark ↔ s.run = true ∧ s.ieb = true := by
  refine ⟨fun hp => ?_, fun ⟨hr, hb⟩ => phase_of_mark hr hb⟩
  unfold State.phase at hp
  split_ifs at hp with hr hb
  exact ⟨by simpa using hr, hb⟩

/-- Settles O52: (I4) and (I5) of R35 carry the outputs to the timer's `run` and channel B, which the phase reads. -/
theorem outputsShowThePhase : Obligations.OutputsShowThePhase := by
  intro s h
  refine ⟨?_, ?_, rfl⟩
  · calc s.statusFrame = true
      _ ↔ s.run = true := by rw [h.engine.statusIsRun]
      _ ↔ s.phase ≠ .idle := by rw [ne_eq, phase_idle_iff, Bool.not_eq_false]
  · calc s.irOut = true
      _ ↔ s.ieb = true := by rw [h.engine.markIsArmedB]
      _ ↔ s.phase = .transmittingMark := by
        rw [phase_mark_iff, and_iff_right_of_imp h.engine.run_of_ieb]

end Sys2Proof.Machine
end

section
/-! Reset, and the mode `NONE` that the default parameters reset to: the family 70_reset_and_hazards.md of the obligations. -/

namespace Sys2Proof

theorem Mode.requiresExternal_iff {m : Mode} : m.requiresExternal = true ↔ m = .external ∨ m = .combined := by
  rw [Mode.requiresExternal_eq, decide_eq_true_iff]

end Sys2Proof

namespace Sys2Proof.Machine

/-! ### The state after reset -/

/-- Settles O1: `resetWith` lists the values of R145's table, and the edge enable is `requires_external` of `RESET_MODE`. -/
theorem resetLeavesTheStatedValues : Obligations.ResetLeavesTheStatedValues :=
  ⟨fun p h => ⟨rfl, rfl, rfl, rfl, rfl, rfl, rfl, rfl, rfl, rfl, rfl, rfl, rfl, rfl, rfl, rfl, rfl, rfl,
    Mode.requiresExternal_iff, rfl, rfl, rfl, rfl, rfl, rfl⟩, rfl, rfl, rfl⟩

/-- The selection writes the mode and the edge enable, and all else it clears is clear already (R146, R107). -/
theorem exec_mode_resets (p : Params) (h : p.wf = true) :
    exec (.mode p.resetMode.code) { State.resetWith p h with mode := .none, extIe := false } =
      .next (State.resetWith p h) :=
  exec_mode_selected (Mode.ofCode_code p.resetMode)

theorem resetWith_none {p : Params} (h : p.wf = true) (hm : p.resetMode = .none) :
    (State.resetWith p h).mode = .none ∧ (State.resetWith p h).extIe = false :=
  ⟨hm, congrArg Mode.requiresExternal hm⟩

/-! ### What `MODE` alone can change -/

theorem mode_and_extIe_of_exec {i : Instr} {s t : State} (hx : exec i s = .next t) (hi : ∀ c, i ≠ .mode c) :
    t.mode = s.mode ∧ t.extIe = s.extIe := by
  obtain ⟨-, -, -, -, -, -, -, -, hmode, hext, -⟩ := onlyWritersOfTheArbiterElements i s t hx
  have hnot : ¬∃ c, i = .mode c := not_exists.mpr hi
  exact ⟨not_not.mp (mt hmode hnot), not_not.mp (mt hext hnot)⟩

/-- Settles O2: `MODE` and R35 at reset; then in `NONE` each of the three triggers is ignored by its own rule, and only
`MODE` leaves it. -/
theorem resetIsAModeSelectionFromZero : Obligations.ResetIsAModeSelectionFromZero := by
  refine ⟨fun p h => ⟨exec_mode_resets p h, (invariantsHoldAtReset p h).1, resetWith_none h⟩, fun s hm hext => ?_⟩
  refine ⟨fun m sel => exec_pkt_ignored (.inr (by simp [hm])), exec_pollf_ignored (.inl (by simp [hm])),
    fun l => exec_syncin_recorded (.inr (.inl hext)), fun i t hx hi => ?_⟩
  obtain ⟨hmode, hedge⟩ := mode_and_extIe_of_exec hx hi
  exact ⟨hmode.trans hm, hedge.trans hext⟩

end Sys2Proof.Machine
end

section
/-! The step: which operation it performs and that there is one; what stands across the operations: the fault element, the
ignored conditions, the model's own fields. The family 'other' of the obligations. -/

namespace Sys2Proof.Machine

/-! ### The choice of the next operation -/

/-- The words that let a due handler go first (40_timers.md R70; 30_encoding.md R63 (c), R67). -/
theorem waitsForHandler_iff {schedule : Schedule} {d : Except DecodeError Instr} :
    waitsForHandler schedule d = true ↔
      d = .ok .tick ∨ (schedule = .eager ∧ d ≠ .ok .compa ∧ d ≠ .ok .compb) := by
  cases d with
  | error e => simp [waitsForHandler]
  | ok i => cases i <;> simp [waitsForHandler]

theorem selectOperation_word {s : State} {w : OpWord} {rest : List OpWord} (ht : s.trace = w :: rest)
    (h : s.dueEvent = none ∨ waitsForHandler s.schedule (decode w) = false) :
    selectOperation s = takeWord (decode w) rest s := by
  cases hd : s.dueEvent with
  | none => simp [selectOperation, ht, hd]
  | some e =>
    have hw : waitsForHandler s.schedule (decode w) = false := by simpa [hd] using h
    simp [selectOperation, ht, hd, hw]

theorem selectOperation_handler {s : State} {e : Instr} (hd : s.dueEvent = some e)
    (h : s.trace = [] ∨ ∃ w rest, s.trace = w :: rest ∧ waitsForHandler s.schedule (decode w) = true) :
    selectOperation s = .perform e s := by
  obtain ht | ⟨w, rest, ht, hw⟩ := h
  · simp [selectOperation, ht, hd]
  · simp [selectOperation, ht, hd, hw]

theorem selectOperation_idle {s : State} (ht : s.trace = []) (hd : s.dueEvent = none) :
    selectOperation s = .idle s := by
  simp [selectOperation, ht, hd]

/-! ### The step that follows the choice -/

theorem step_of_fault {s : State} {f : Fault} (hf : s.fault = some f) : step s = .fault f := by
  simp [step, select, hf]

theorem step_of_perform {s s' : State} {i : Instr} (hf : s.fault = none)
    (h : selectOperation s = .perform i s') : step s = exec i s' := by
  simp [step, select_live hf, h]

theorem step_of_idle {s s' : State} (hf : s.fault = none) (h : selectOperation s = .idle s') :
    step s = .next s' := by
  simp [step, select_live hf, h]

/-- Settles O15: under each of its conditions the word does not let a handler go first. -/
theorem stepRunsTheDecodedWord : Obligations.StepRunsTheDecodedWord := by
  intro s w rest i hf ht hw h
  have hfirst : s.dueEvent = none ∨ waitsForHandler s.schedule (decode w) = false := by
    rw [← Bool.not_eq_true, waitsForHandler_iff, hw]
    obtain hd | rfl | rfl | ⟨hi, hs⟩ := h
    · exact .inl hd
    · simp
    · simp
    · simp [hi, hs]
  exact step_of_perform hf (by rw [selectOperation_word ht hfirst, hw, takeWord])

/-- Settles O16: the listed words are the ones that let a due handler go first. -/
theorem stepServesADueHandlerFirst : Obligations.StepServesADueHandlerFirst := by
  intro s e hf hd h
  simp only [← waitsForHandler_iff] at h
  exact ⟨step_of_perform hf (selectOperation_handler hd h), (dueEvent_some hd).imp And.left And.left⟩

/-- Settles O17: a word that is no operation lets a handler go first under the eager schedule alone. -/
theorem reservedAndIllegalWordsAreIgnored : Obligations.ReservedAndIllegalWordsAreIgnored := by
  intro s w rest e hf ht hw h
  have hfirst : s.dueEvent = none ∨ waitsForHandler s.schedule (decode w) = false :=
    h.imp_right fun hs => by rw [← Bool.not_eq_true, waitsForHandler_iff, hw, hs]; simp
  exact step_of_idle hf (by rw [selectOperation_word ht hfirst, hw, takeWord])

/-- Settles O18: the idle choice, the two answers of registration, and the proof that a state carries. -/
theorem idleBlockWaitsAndIllFormedIsRefused : Obligations.IdleBlockWaitsAndIllFormedIsRefused :=
  ⟨fun _ hf ht hd => step_of_idle hf (selectOperation_idle ht hd), fun _ => powerUp_refused,
    fun _ => powerUp_registered, fun s => ⟨s.registered, Params.table_wf s.registered⟩⟩

theorem decode_of_decodeTableWord {nbits w : Nat} {i : Instr} (h : decodeTableWord nbits w = some i) :
    decode (BitVec.ofNat 24 w) = .ok i := by
  unfold decodeTableWord at h
  split at h
  · cases h
  · split at h
    · next hw => cases h; exact hw
    · cases h

/-- Settles O20: the placed word is the first of the list and the order is as written, so that the step performs it. -/
theorem placedWordRunsNext : Obligations.PlacedWordRunsNext := by
  intro s nbits w i hf hw h
  exact stepRunsTheDecodedWord (s.withFetchWord nbits w) (BitVec.ofNat 24 w) s.trace i hf rfl
    (decode_of_decodeTableWord hw) (h.imp_right fun hi => .inr (.inr ⟨hi, rfl⟩))

/-! ### Every stimulus has an outcome -/

theorem due_handler_answers {s : State} {e : Instr} (hd : s.dueEvent = some e) : ∃ t, exec e s = .next t := by
  obtain ⟨rfl, hdue⟩ | ⟨rfl, -, hdue⟩ := dueEvent_some hd
  · exact ⟨_, exec_compa_of_due hdue⟩
  · exact ⟨_, exec_compb_of_due hdue⟩

/-- Settles O19: a due handler is enabled, `TICK` is performed only where none is due, and every other stimulus always
answers. -/
theorem everyStimulusWordHasAnOutcome : Obligations.EveryStimulusWordHasAnOutcome := by
  intro s hf hstim
  obtain ⟨e, hd, hsel⟩ | ⟨-, -, hsel⟩ | ⟨w, rest, i, ht, hw, hfirst, hsel⟩ | ⟨w, rest, e, -, -, hsel⟩ :=
    selectOperation_cases s
  · rw [step_of_perform hf hsel]
    exact due_handler_answers hd
  · exact ⟨_, step_of_idle hf hsel⟩
  · rw [step_of_perform hf hsel]
    by_cases hi : i = .tick
    · subst hi
      have hquiet : s.dueEvent = none := hfirst.resolve_right (by simp [waitsForHandler])
      exact ⟨_, exec_tick_enabled (s := { s with trace := rest }) hquiet⟩
    · obtain ⟨ha, hb⟩ := hstim w rest ht
      exact stimulus_answers _ hi (fun h => ha (h ▸ hw)) (fun h => hb (h ▸ hw))
  · exact ⟨_, step_of_idle hf hsel⟩

/-! ### The fault element and the model's own fields -/

/-- Settles O7: an operation keeps the fault element or raises a fault, and the step looks at the fault first. -/
theorem faultIsStickyAndStopsTheMachine : Obligations.FaultIsStickyAndStopsTheMachine := by
  refine ⟨fun i s t hs hx => ?_, fun _ _ => step_of_fault⟩
  obtain e | ⟨-, e⟩ | ⟨-, -, e⟩ := fault_of_exec hx <;> rw [e]
  · exact hs
  · nofun
  · nofun

theorem trace_and_schedule_of_exec {i : Instr} {s t : State} (hx : exec i s = .next t) :
    t.trace = s.trace ∧ t.schedule = s.schedule := by
  cases did_of_exec hx with
  | nothing ht => exact ht ▸ ⟨rfl, rfl⟩
  | ticked hi ha hb ht => exact ht ▸ ⟨tickTimer_trace s, tickTimer_schedule s⟩
  | clocked hi ht => exact ht ▸ ⟨rfl, rfl⟩
  | rose hi hd ht => exact ht ▸ ⟨risingEdge_trace s, risingEdge_schedule s⟩
  | fell hi hd ht => exact ht ▸ ⟨fallingEdge_trace s, fallingEdge_schedule s⟩
  | recorded l hi ht => exact ht ▸ ⟨rfl, rfl⟩
  | selected c m hi hc ht => exact ht ▸ ⟨rfl, rfl⟩
  | swapped hi ht => exact ht ▸ ⟨rfl, rfl⟩
  | expired hi ht => exact ht ▸ ⟨rfl, rfl⟩
  | staged e l hm hi ht => exact ht ▸ ⟨rfl, rfl⟩
  | started e l b ha hi r hr ht => subst hr; exact ht ▸ ⟨startFrame_trace _, startFrame_schedule _⟩

/-- Settles O51: a changed fault was raised by a handler or an authorized trigger, and nothing writes the model's own fields. -/
theorem onlyRaisersOfAFault : Obligations.OnlyRaisersOfAFault := by
  intro i s t hx
  obtain ⟨htrace, hschedule⟩ := trace_and_schedule_of_exec hx
  refine ⟨fun hne => ?_, htrace, hschedule, params_of_exec hx⟩
  obtain e | ⟨hi | hi, -⟩ | ⟨-, ha, -⟩ := fault_of_exec hx
  · exact absurd e hne
  · exact .inl hi
  · exact .inr (.inl hi)
  · exact .inr (.inr ha)

/-! ### The ignored conditions -/

theorem exec_pkt_deaf {m sel : Byte} {s : State} (h : s.mode = .none ∨ s.mode = .external ∨ s.mode = .freerun) :
    exec (.pkt m sel) s = .next s :=
  exec_pkt_ignored (.inr (by obtain h | h | h := h <;> simp [h]))

theorem exec_syncin_deaf {l : Bool} {s : State} (h : s.mode = .none ∨ s.mode = .driver ∨ s.mode = .freerun) :
    exec (.syncin l) s = .next { s with syncIn := l } :=
  exec_syncin_recorded (.inr (.inr (by obtain h | h | h := h <;> simp [h, Mode.requiresExternal])))

/-- Settles O43, row by row; (I8) is not needed, since `ext_edge` looks at the mode itself (R103). -/
theorem ignoredConditionsChangeNothing : Obligations.IgnoredConditionsChangeNothing :=
  ⟨fun _ _ _ => exec_pkt_deaf, fun _ _ _ hm => exec_pkt_ignored (.inl hm), fun _ _ _ => exec_syncin_deaf,
    fun _ => exec_pollf_ignored, fun _ => exec_polll_ignored, fun _ _ _ => beginToken_absent,
    fun _ _ hc => exec_mode_ignored (Mode.ofCode_of_four_lt hc),
    fun s w rest e hf ht hw hd => reservedAndIllegalWordsAreIgnored s w rest e hf ht hw (.inl hd)⟩

end Sys2Proof.Machine
end
